-- ==== Sys2Proof/Word.lean ====
section
/-! DEFINITION. The word types of the block: rule R9 knows unsigned integers of 8, 32 and 64 bits, each wrapping
modulo its own power of two. -/

namespace Sys2Proof

/-- A `u8`: one stream byte, one byte of definition text, one expected-ID byte (R9, R107, R108). -/
abbrev Byte := BitVec 8

/-- A `u32`: a frame word, a command word, a tag word, a counter of R41 to R43 (R9). -/
abbrev Word := BitVec 32

/-- A `u64`: the width of every global register (10_state.md section 2). -/
abbrev DWord := BitVec 64

end Sys2Proof
end

