-- ==== Sys2Proof/Config.lean ====
section
/-! DEFINITION. The parameters of rule R7 that the spec leaves OPEN: their types, and for the block right after
power-up one opaque value of each, of which nothing can be proved. -/

namespace Sys2Proof

/-- The three bit planes a bitslice frame uses, BS_PLANES of R6. BS_SEQ_PLANE is one of them (R7, D21). -/
inductive BitPlane where
  | p5
  | p6
  | p7
deriving DecidableEq, Repr, Inhabited

/-- The parameters of R7 that are fixed for the block's life (R54, D43). READ_ERROR, the fifth parameter of R7, is the
host's stream's and stands in `Machine.InputStream`. -/
structure Params where
  /-- ES_MAGIC, the event-signature constant (D20). -/
  esMagic : Word
  /-- BS_SEQ_PLANE, the plane that carries the frame-sequence counter (D21). -/
  bsSeqPlane : BitPlane
  /-- PROGRESS_PERIOD, 0 = off (D36). -/
  progressPeriod : Nat
  /-- SINK_PRESENT: an output sink is attached (D41). -/
  sinkPresent : Bool
deriving DecidableEq, Repr

namespace Config

/-- ES_MAGIC of the powered-up block. No value is known (R7, D20): log entry 1. -/
opaque esMagic : Word

/-- BS_SEQ_PLANE of the powered-up block. No value is known (R7, D21): log entry 1. -/
opaque bsSeqPlane : BitPlane

/-- PROGRESS_PERIOD of the powered-up block. No value is known (R7, D36): log entry 1. -/
opaque progressPeriod : Nat

/-- SINK_PRESENT of the powered-up block. No value is known (R7, D41): log entry 1. -/
opaque sinkPresent : Bool

/-- The four parameters together. -/
def params : Params :=
  { esMagic := esMagic, bsSeqPlane := bsSeqPlane, progressPeriod := progressPeriod, sinkPresent := sinkPresent }

end Config

end Sys2Proof
end

