-- ==== Sys2Proof/Syntax.lean ====
section
/-! DEFINITION. The instructions: the ten commands of rule R102 and the eight bank letters of rule R107, which
together are the block's instruction set (R2). One constructor per row of spec/opcode_table.json. -/

namespace Sys2Proof

/-- The order in which COLLECT and BitsliceStep gather bits (R230). -/
inductive Orient where
  /-- Lane k gives result bit k. -/
  | lsb
  /-- Lane k gives result bit 31 - k. -/
  | msb
deriving DecidableEq, Repr

/-- The letters of the bank text (R106, R107). -/
inductive BankLetter where
  | A
  | B
  | C
  | D
  | S
  | P
  | l
  | m
deriving DecidableEq, Repr

/-- The payload that comes with a command word (R75, R100): nothing, bytes of definition text, or frame words. -/
inductive Payload where
  | none
  | bytes (d : List Byte)
  | words (w : List Word)
deriving DecidableEq, Repr

/-- The instructions. A command's operands are the fields of its command word and its payload (R100, R102). A payload
of the wrong length is still an instruction: its meaning raises CMD_ILLEGAL, in the order of R335. -/
inductive Instr where
  /-- OP 0x0, R300. -/
  | reset
  /-- OP 0x1, R301: FLAGS = CW[4:0]. -/
  | setConfig (flags : BitVec 5)
  /-- OP 0x2, R302: the payload should be the two words lo and hi. -/
  | setCeiling (payload : List Word)
  /-- OP 0x3, R158: N = CW[7:0] and the definition text. -/
  | addModule (n : Byte) (text : List Byte)
  /-- OP 0x4, R157: N = CW[7:0] and the definition text. -/
  | build (n : Byte) (text : List Byte)
  /-- OP 0x5, R180: M = CW[7:0] and the frame. -/
  | validate (m : Byte) (frame : List Word)
  /-- OP 0x6, R231: BIT = CW[4:0], ORIENT = CW[8], and 32 words. -/
  | collect (bit : BitVec 5) (orient : Orient) (lanes : List Word)
  /-- OP 0x7, R262. -/
  | step
  /-- OP 0x8, R272. -/
  | run
  /-- OP 0x9, R303: REG = CW[7:0] and M = CW[15:8]. -/
  | readReg (reg : Byte) (m : Byte)
  /-- Bank letter A, R146. -/
  | bankA
  /-- Bank letter B, R146. -/
  | bankB
  /-- Bank letter C, R146. -/
  | bankC
  /-- Bank letter D, R146. -/
  | bankD
  /-- Bank letter S, R150. -/
  | bankS
  /-- Bank letter P, R151. -/
  | bankP
  /-- Bank letter l, R152. -/
  | bankL
  /-- Bank letter m, R152. -/
  | bankM
deriving DecidableEq, Repr

end Sys2Proof
end

