-- ==== Sys2Proof/Machine/State.lean ====
section
/-! DEFINITION. The machine's state as plain data: every register of 10_state.md, the frame buffer, the three ports of
rule R347 and the command port of rule R100, and the state right after reset (R53). Reset values the spec states are
rule R53's; the log entry of every other value is named at its field. -/

namespace Sys2Proof.Machine

/-- STATUS.PHASE (R33, R114, R345). -/
inductive Phase where
  | config
  | running
  | done
  | fatal
deriving DecidableEq, Repr

/-- STATUS.OUTCOME (R33, R114, R270). -/
inductive RunOutcome where
  | none
  | endOfStream
  | completed
  | corrupt
deriving DecidableEq, Repr

/-- STATUS.FATAL_CODE (R331); `noFault` is the value 0. -/
inductive FatalCode where
  | noFault
  | cfgMalformed
  | cfgBadSite
  | cfgBadChar
  | cfgDupBank
  | cfgBothOrient
  | cfgEmpty
  | cfgBsNeedsAbcd
  | cfgNoModules
  | cfgTooManyModules
  | inputUnreadable
  | cmdIllegal
  | cmdPhase
deriving DecidableEq, Repr

/-- MOD[m].VARIANT (R40, R114). -/
inductive Variant where
  | standard
  | bitsliceLsb
  | bitsliceMsb
deriving DecidableEq, Repr

/-- An element of an identity table: a concrete expected ID or one of the four sentinels (R12, R110). -/
inductive Tag where
  | id (t : Byte)
  | noCheck
  | sampleCounter
  | scratchpad (j : Fin 7)
  | pmod
deriving DecidableEq, Repr

/-- A module's register set (R40 to R45). LEN is the length of TABLE. -/
structure Module where
  /-- SITE, 0..6 (R40). -/
  site : Byte
  /-- OFFSET, the byte offset of the slice in the frame (R40, R78). -/
  offset : DWord
  /-- VARIANT (R40). -/
  variant : Variant
  /-- TABLE (R40). -/
  table : List Tag
  /-- LAST_COUNTER (R41). -/
  lastCounter : Word
  /-- SPAD[0..6] (R42). -/
  spad : Vector Word 7
  /-- BS_PRIMED (R43). -/
  bsPrimed : Bool
  /-- BS_SEQ (R43). -/
  bsSeq : Word
  /-- BS_AUX0 (R43). -/
  bsAux0 : Word
  /-- BS_AUX1 (R43). -/
  bsAux1 : Word
  /-- BS_ERR (R44). -/
  bsErr : DWord
  /-- LAST_ERRS (R45). -/
  lastErrs : Word
deriving DecidableEq, Repr

/-- The diagnostic events of R352, each field named by its role (R353). -/
inductive DiagEvent where
  | word (m i : Nat) (tag : Tag) (observed : Word) (passed : Bool)
  | spadChange (m : Nat) (j : Fin 7) (old new : Word)
  | esSkip (m : Nat)
  | bsDiscontinuity (m : Nat) (previous seq : Word)
  | bsAuxChange (m which : Nat) (old new : Word)
  | bsCapture (m : Nat) (seq aux0 aux1 : Word)
  | progress (frames bytes : DWord)
  | summary (outcome : RunOutcome) (errors frames : DWord)
  | fatalEvent (code : FatalCode)
deriving DecidableEq, Repr

/-- The response of a command (R100). -/
inductive Response where
  | ok (v : DWord)
  | fault (code : FatalCode)
  | refused
deriving DecidableEq, Repr

/-- What stands in the host's stream after the bytes of `InputStream.data` (R71, R378). -/
inductive StreamTail where
  /-- The stream ends there. -/
  | ended
  /-- The stream neither ends nor supplies another byte: a read that needs one never returns. -/
  | stalls
  /-- The stream never ends: these bytes follow, over and over. -/
  | repeats (cycle : List Byte)
deriving DecidableEq, Repr

/-- The input stream the host has bound: IN and POS of R71, and the parameter READ_ERROR of R7 as the ordinals, from 0,
of the reads that fail, counted since the stream was bound (log entry 9). -/
structure InputStream where
  data : List Byte
  tail : StreamTail
  /-- POS, which does not wrap (R50). -/
  pos : Nat
  /-- How many reads have returned since the stream was bound: the model's own field (log entry 9). -/
  reads : Nat
  /-- READ_ERROR. -/
  failing : List Nat
deriving DecidableEq, Repr

/-- What the host gives the block, in order: a command with its payload (R100), or a stream bound to the input port
(R71, R372; log entry 2). -/
inductive HostItem where
  | command (cw : Word) (payload : Payload)
  | bindStream (stream : InputStream)
deriving DecidableEq, Repr

/-- The working registers of the BankLayout unit: the partially built table that R55 names, which no command can
observe. `lower` and `upper` are the two halves of the ABCD block (R147, R148), `tail` the S and P entries (R153). -/
structure Layout where
  site : Byte
  /-- The letters accepted so far, in text order. -/
  banks : List BankLetter
  lower : List Tag
  upper : List Tag
  tail : List Tag
  /-- Bank text presented letter by letter and not yet scanned; empty between commands (log entry 4). -/
  text : List Byte
deriving DecidableEq, Repr

/-- The BankLayout unit at rest. -/
def Layout.idle : Layout :=
  { site := 0, banks := [], lower := [], upper := [], tail := [], text := [] }

/-- The whole state. NMODULES is the length of `modules` and FRAME_WORDS the sum of the table lengths, which is what
R34 says they are; `Machine/Operands.lean` reads both as registers. -/
structure State where
  /-- The parameters of R7, which no step writes (R54, D43; log entry 1). -/
  params : Params
  /-- STATUS.PHASE (R33). -/
  phase : Phase
  /-- STATUS.OUTCOME (R33). -/
  outcome : RunOutcome
  /-- STATUS.FATAL_CODE (R33). -/
  fatalCode : FatalCode
  /-- CONFIG (R31). -/
  config : DWord
  /-- CEILING (R32). -/
  ceiling : DWord
  /-- FRAME_COUNT (R35). -/
  frameCount : DWord
  /-- BYTE_COUNT (R36). -/
  byteCount : DWord
  /-- ERR_TOTAL (R37). -/
  errTotal : DWord
  /-- BS_ERR_TOTAL (R38). -/
  bsErrTotal : DWord
  /-- CORRUPT_FRAME (R39). -/
  corruptFrame : DWord
  /-- CORRUPT_MODULE (R39). -/
  corruptModule : DWord
  /-- CORRUPT_STREAM_OFFSET (R39). -/
  corruptStreamOffset : DWord
  /-- CORRUPT_MODULE_OFFSET (R39). -/
  corruptModuleOffset : DWord
  /-- RESULT (R46). -/
  result : DWord
  /-- BUILD_LEN (R47). -/
  buildLen : DWord
  /-- BUILD_TAG[0..40], tag words (R47). -/
  buildTag : Vector Word 41
  /-- MOD[0], MOD[1], … (R40). -/
  modules : List Module
  /-- F, the frame buffer: what the last command that filled it put there (R72; log entry 3). -/
  frame : List Word
  /-- The BankLayout unit's working registers (R55; log entry 4). -/
  layout : Layout
  /-- The command port: what the host has issued and the block has not yet completed (R30, R100). -/
  queue : List HostItem
  /-- The input stream (R71). -/
  input : InputStream
  /-- OUT, what has been written to the output sink (R74). -/
  sink : List Byte
  /-- DIAG, the diagnostic stream (R48, R352). -/
  diag : List DiagEvent
  /-- The responses given, the oldest first (R100). -/
  responses : List Response
deriving DecidableEq, Repr

/-- Why the model stops with a fault. The spec's own faults are not here: `raise Fatal(code)` is a next state (R340). -/
inductive Fault where
  /-- ValidateModule(m) would read F outside the frame (R78). VALIDATE, STEP and RUN raise it, only in a state whose
  module offsets do not tile the frame, which no run reaches. Safe. -/
  | sliceOutsideFrame (m : Nat)
  /-- BitsliceStep(m) would read past the module's slice (R192 gives it at least 32 words). VALIDATE, STEP and RUN raise
  it, only in a state that holds a bitslice module of fewer than 32 words, which no run reaches. Safe. -/
  | bitsliceSliceShort (m : Nat)
deriving DecidableEq, Repr

/-- Why the model gives an instruction no meaning. -/
inductive Refusal where
  /-- An instruction without a meaning yet: only an arm of exec would answer so, and none does. Safe. -/
  | notModelled (mnemonic : String)
deriving DecidableEq, Repr

/-- No stream bound yet: nothing to read and no end in sight (log entry 2). -/
def InputStream.unbound : InputStream :=
  { data := [], tail := .stalls, pos := 0, reads := 0, failing := [] }

/-- The state right after power-up (R53, R370): every register at its reset value, no modules, nothing issued, nothing
bound, nothing written. -/
def State.reset : State :=
  { params := Config.params
    phase := .config
    outcome := .none
    fatalCode := .noFault
    config := 0x02
    ceiling := 0
    frameCount := 0
    byteCount := 0
    errTotal := 0
    bsErrTotal := 0
    corruptFrame := 0
    corruptModule := 0
    corruptStreamOffset := 0
    corruptModuleOffset := 0
    result := 0
    buildLen := 0
    buildTag := ⟨⟨List.replicate 41 0⟩, rfl⟩
    modules := []
    frame := []
    layout := Layout.idle
    queue := []
    input := InputStream.unbound
    sink := []
    diag := []
    responses := [] }

end Sys2Proof.Machine
end

