-- ==== Sys2Proof/Machine/Flags.lean ====
section
/-! DEFINITION. The flag fields: CONFIG's (R31) and the comparison mask they give (R109), STATUS as one word (R33), and
the word VALIDATE answers with (R116). -/

namespace Sys2Proof.Machine

/-- CONFIG.NO_SITE_ID, bit 0 (R31). -/
def noSiteId (config : DWord) : Bool := config.getLsbD 0

/-- CONFIG.SPAD_MON, bit 1 (R31). -/
def spadMon (config : DWord) : Bool := config.getLsbD 1

/-- CONFIG.BS_ALWAYS_VALID, bit 2 (R31). -/
def bsAlwaysValid (config : DWord) : Bool := config.getLsbD 2

/-- CONFIG.VERBOSE, bit 3 (R31). -/
def verbose (config : DWord) : Bool := config.getLsbD 3

/-- CONFIG.CEIL_EN, bit 4 (R31). -/
def ceilEn (config : DWord) : Bool := config.getLsbD 4

/-- MASK: 0x1F in "no-site-ID" mode, else 0xFF (R109, R182). -/
def idMask (config : DWord) : Word := if noSiteId config then 0x1F else 0xFF

/-- The value of PHASE (R114). -/
def phaseValue : Phase → Nat
  | .config => 0
  | .running => 1
  | .done => 2
  | .fatal => 3

/-- The value of OUTCOME (R114). -/
def outcomeValue : RunOutcome → Nat
  | .none => 0
  | .endOfStream => 1
  | .completed => 2
  | .corrupt => 3

/-- The value of FATAL_CODE (R331). -/
def fatalCodeValue : FatalCode → Nat
  | .noFault => 0x00
  | .cfgMalformed => 0x01
  | .cfgBadSite => 0x02
  | .cfgBadChar => 0x03
  | .cfgDupBank => 0x04
  | .cfgBothOrient => 0x05
  | .cfgEmpty => 0x06
  | .cfgBsNeedsAbcd => 0x07
  | .cfgNoModules => 0x08
  | .cfgTooManyModules => 0x09
  | .inputUnreadable => 0x0A
  | .cmdIllegal => 0x0B
  | .cmdPhase => 0x0C

/-- STATUS: PHASE in bits 1:0, OUTCOME in bits 3:2, FATAL_CODE in bits 15:8, every other bit 0 (R33). -/
def statusWord (s : State) : DWord :=
  BitVec.ofNat 64 (phaseValue s.phase + 4 * outcomeValue s.outcome + 256 * fatalCodeValue s.fatalCode)

/-- The value of VARIANT (R114). -/
def variantValue : Variant → Nat
  | .standard => 0
  | .bitsliceLsb => 1
  | .bitsliceMsb => 2

/-- What one validation answers (R51, R181): ok, error_count and whether the event signature matched. -/
structure Verdict where
  ok : Bool
  ec : Word
  es : Bool
deriving DecidableEq, Repr

/-- VALIDATE's RESULT: error_count in bits 31:0, ok in bit 32, es in bit 33 (R116, R180). -/
def verdictWord (v : Verdict) : DWord :=
  v.ec.zeroExtend 64 ||| (if v.ok then 1#64 <<< 32 else 0#64) ||| (if v.es then 1#64 <<< 33 else 0#64)

end Sys2Proof.Machine
end

