-- ==== Sys2Proof/Machine/Ops.lean ====
section
/-! DEFINITION. The shared operations: completing a command, fault entry and refusal (R340, R343), the legality checks
(R304, R335), the diagnostic port, the end of a run, and the three data ports (R71 to R74). -/

namespace Sys2Proof.Machine

/-- The command at the head of the command port has completed: its response leaves the block (R100). -/
def State.respond (r : Response) (s : State) : State :=
  { s with responses := s.responses ++ [r], queue := s.queue.drop 1 }

/-- `Diag(e)` for each event in turn (R10, R48). -/
def State.emit (es : List DiagEvent) (s : State) : State :=
  { s with diag := s.diag ++ es }

/-- `raise Fatal(code)`, the fault entry of R340: PHASE becomes FATAL, the first code is kept, OUTCOME and every other
register keep their values, and the command is answered with the fault. -/
def State.raise (code : FatalCode) (s : State) : State :=
  { s with
    phase := .fatal
    fatalCode := if s.fatalCode = .noFault then code else s.fatalCode
    diag := s.diag ++ [.fatalEvent code]
    responses := s.responses ++ [.fault code]
    queue := s.queue.drop 1 }

/-- A Refused command: no register changes and no event is emitted (R343). -/
def State.refuse (s : State) : State := s.respond .refused

/-- A command that completes with the value v: RESULT and the response are v (R46, R116). -/
def State.answer (v : DWord) (s : State) : State :=
  State.respond (.ok v) { s with result := v }

/-- A command that spells no row of the table, or whose operand shape is wrong (R333); in FATAL it is Refused (R343,
93_implementation_defined.md I11 and I12). -/
def State.illegal (s : State) : State :=
  if s.phase = .fatal then s.refuse else s.raise .cmdIllegal

/-- The first four checks of R335, in its order: phase FATAL, then the operand shape, then the phases in which R304
allows the command. The encoding check is the decoder's. -/
def guarded (shapeOk : Bool) (legal : List Phase) (s : State) (body : Host.Outcome State Fault Refusal) :
    Host.Outcome State Fault Refusal :=
  if s.phase = .fatal then .next s.refuse
  else if shapeOk = false then .next (s.raise .cmdIllegal)
  else if s.phase ∈ legal then body
  else .next (s.raise .cmdPhase)

/-- `EndRun(o)` (R262, R273, R341): OUTCOME, PHASE = DONE, and one Summary event. -/
def State.endRun (o : RunOutcome) (s : State) : State :=
  { s with phase := .done, outcome := o, diag := s.diag ++ [.summary o s.errTotal s.frameCount] }

/-- FRAME_WORDS, the sum of MOD[m].LEN (R34). -/
def frameWords (s : State) : Nat := (s.modules.map (fun x => x.table.length)).sum

/-- FRAME_BYTES = 4 × FRAME_WORDS (R34). -/
def frameBytes (s : State) : Nat := 4 * frameWords s

/-- The host's byte at index i of the stream, if the stream ever supplies it (R71). -/
def InputStream.byteAt (st : InputStream) (i : Nat) : Option Byte :=
  if i < st.data.length then st.data[i]?
  else
    match st.tail with
    | .ended => none
    | .stalls => none
    | .repeats cycle => cycle[(i - st.data.length) % cycle.length]?

/-- IN[POS .. POS+n-1], as far as the stream supplies it (R71). -/
def InputStream.window (n : Nat) (st : InputStream) : List Byte :=
  (List.range n).filterMap (fun k => st.byteAt (st.pos + k))

/-- What a read comes to (R71, R378). -/
inductive ReadResult where
  /-- The read does not return. -/
  | waits
  /-- ReadError. -/
  | error (st : InputStream)
  /-- Bytes(b), perhaps fewer than asked for. -/
  | bytes (b : List Byte) (st : InputStream)

/-- `StreamRead(n)` (R71). A short read happens only at the end of the stream; on a stream that neither ends nor supplies
the bytes the read never returns. -/
def streamRead (n : Nat) (st : InputStream) : ReadResult :=
  if st.reads ∈ st.failing then .error { st with reads := st.reads + 1 }
  else if (st.window n).length < n ∧ st.tail ≠ .ended then .waits
  else .bytes (st.window n) { st with pos := st.pos + (st.window n).length, reads := st.reads + 1 }

/-- `SinkWrite(b)`: appends to the sink if one is attached (R74). -/
def State.sinkWrite (b : List Byte) (s : State) : State :=
  { s with sink := if s.params.sinkPresent then s.sink ++ b else s.sink }

/-- LE32 (R10, R73): the first byte is the least significant. -/
def le32 (b0 b1 b2 b3 : Byte) : Word :=
  b0.zeroExtend 32 ||| (b1.zeroExtend 32 <<< 8) ||| (b2.zeroExtend 32 <<< 16) ||| (b3.zeroExtend 32 <<< 24)

/-- The frame words of a sequence of bytes (R72). -/
def decodeFrame : List Byte → List Word
  | b0 :: b1 :: b2 :: b3 :: rest => le32 b0 b1 b2 b3 :: decodeFrame rest
  | _ => []

/-- The words F[base .. base+len-1], where F has them all (R78). -/
def frameSlice (frame : List Word) (base len : Nat) : Option (List Word) :=
  if base + len ≤ frame.length then some ((frame.drop base).take len) else none

end Sys2Proof.Machine
end

