-- ==== Sys2Proof/Machine/Bitslice.lean ====
section
/-! DEFINITION. The bitslice-counter decoder (42_bitslice.md): the gather, COLLECT, and the per-frame decoding with its
continuity check. -/

namespace Sys2Proof.Machine

/-- The number whose bit k is the k-th entry of the list. -/
def packBits : List Bool → Nat
  | [] => 0
  | b :: rest => b.toNat + 2 * packBits rest

/-- Bit b of each lane. -/
def laneBits (lanes : List Word) (b : Nat) : List Bool := lanes.map (fun w => w.getLsbD b)

/-- Collect(w, b, orient) over 32 lanes: lane k gives bit k, or bit 31 - k for MSB-first (R230). -/
def collect (lanes : List Word) (b : Nat) : Orient → Word
  | .lsb => BitVec.ofNat 32 (packBits (laneBits lanes b))
  | .msb => BitVec.ofNat 32 (packBits (laneBits lanes b).reverse)

/-- COLLECT (R231). -/
def execCollect (bit : BitVec 5) (orient : Orient) (lanes : List Word) (s : State) :
    Host.Outcome State Fault Refusal :=
  guarded (lanes.length == 32) [.config, .running, .done] s <|
    .next (s.answer ((collect lanes bit.toNat orient).zeroExtend 64))

/-- The plane that carries SEQ (R232). -/
def seqPlane : BitPlane → Nat
  | .p5 => 5
  | .p6 => 6
  | .p7 => 7

/-- The lower of the two other planes, which carries AUX0 (R232). -/
def aux0Plane : BitPlane → Nat
  | .p5 => 6
  | .p6 => 5
  | .p7 => 5

/-- The higher of the two other planes, which carries AUX1 (R232). -/
def aux1Plane : BitPlane → Nat
  | .p5 => 7
  | .p6 => 7
  | .p7 => 6

/-- VARIANT 1 is LSB-first; BitsliceStep reads every other as MSB-first (R233). -/
def variantOrient : Variant → Orient
  | .bitsliceLsb => .lsb
  | .standard => .msb
  | .bitsliceMsb => .msb

/-- What BitsliceStep does: the module after it, whether continuity was violated, and the events (R233). -/
structure BitsliceOutcome where
  module : Module
  violation : Bool
  events : List DiagEvent
deriving DecidableEq, Repr

/-- A continuity violation: only after the first decoded frame and only in enforced mode (R234 to R236). -/
def bsViolation (config : DWord) (x : Module) (seq : Word) : Bool :=
  x.bsPrimed && !bsAlwaysValid config && seq != x.bsSeq + 1

/-- The change event of one auxiliary field (R237). -/
def auxEvents (m which : Nat) (primed : Bool) (old new : Word) : List DiagEvent :=
  if primed && new != old then [.bsAuxChange m which old new] else []

/-- BitsliceStep(m, w) (R233). `lanes` are the 32 words w. -/
def bitsliceStep (p : Params) (config : DWord) (m : Nat) (x : Module) (lanes : List Word) : BitsliceOutcome :=
  let o := variantOrient x.variant
  let seq := collect lanes (seqPlane p.bsSeqPlane) o
  let aux0 := collect lanes (aux0Plane p.bsSeqPlane) o
  let aux1 := collect lanes (aux1Plane p.bsSeqPlane) o
  let violation := bsViolation config x seq
  { module := { x with
      bsErr := if violation then x.bsErr + 1 else x.bsErr
      bsSeq := seq
      bsAux0 := aux0
      bsAux1 := aux1
      bsPrimed := true }
    violation := violation
    events :=
      (if violation then [.bsDiscontinuity m x.bsSeq seq] else []) ++
      auxEvents m 0 x.bsPrimed x.bsAux0 aux0 ++
      auxEvents m 1 x.bsPrimed x.bsAux1 aux1 ++
      (if bsAlwaysValid config then [.bsCapture m seq aux0 aux1] else []) }

end Sys2Proof.Machine
end

