-- ==== Sys2Proof/Machine/Validator.lean ====
section
/-! DEFINITION. The frame validator (41_module_validator.md): the event signature, the per-word policies, one module's
validation, and VALIDATE. -/

namespace Sys2Proof.Machine

/-- EventSignature: the slice has at least 4 words and the first four are ES_MAGIC, compared in full (R183). -/
def eventSignature (magic : Word) : List Word → Bool
  | a :: b :: c :: d :: _ => a == magic && b == magic && c == magic && d == magic
  | _ => false

/-- What the word loop carries: error_count, the two pieces of continuity state it writes, the slots recorded as changed,
and the events (R181). -/
structure WordLoop where
  ec : Word
  lastCounter : Word
  spad : Vector Word 7
  changed : Vector (Option (Word × Word)) 7
  events : List DiagEvent
deriving DecidableEq, Repr

/-- The policy of one word (R185 to R189): the loop's state after it, without its event. -/
def wordPolicy (mask : Word) (tag : Tag) (v : Word) (a : WordLoop) : WordLoop :=
  match tag with
  | .noCheck => a
  | .pmod => a
  | .scratchpad j =>
    { a with
      changed := if v ≠ a.spad[j] then a.changed.set j (some (a.spad[j], v)) else a.changed
      spad := a.spad.set j v }
  | .sampleCounter => if v = a.lastCounter + 1 then { a with lastCounter := v } else { a with ec := a.ec + 1 }
  | .id t => if v &&& mask ≠ t.zeroExtend 32 &&& mask then { a with ec := a.ec + 1 } else a

/-- `passed`: the word added nothing to ec (R181). -/
def wordPassed (mask : Word) (tag : Tag) (v : Word) (a : WordLoop) : Bool := (wordPolicy mask tag v a).ec == a.ec

/-- One turn of the word loop: the policy, then the Word event when CONFIG.VERBOSE = 1 (R181, R193). -/
def checkWord (config : DWord) (m i : Nat) (tag : Tag) (v : Word) (a : WordLoop) : WordLoop :=
  let b := wordPolicy (idMask config) tag v a
  { b with
    events := if verbose config then a.events ++ [.word m i tag v (wordPassed (idMask config) tag v a)] else a.events }

/-- The word loop over a slice, from index i on: every word is checked, in index order (R190). -/
def checkWords (config : DWord) (m : Nat) : Nat → List (Tag × Word) → WordLoop → WordLoop
  | _, [], a => a
  | i, (tag, v) :: rest, a => checkWords config m (i + 1) rest (checkWord config m i tag v a)

/-- EchoScratchpad: one event for each changed slot, in increasing order (R194). -/
def echoScratchpad (m : Nat) (changed : Vector (Option (Word × Word)) 7) : List DiagEvent :=
  ([0, 1, 2, 3, 4, 5, 6] : List (Fin 7)).filterMap fun j =>
    match changed[j] with
    | some (old, new) => some (.spadChange m j old new)
    | none => none

/-- The word loop's state before the first word. -/
def wordLoopStart (x : Module) : WordLoop :=
  { ec := 0, lastCounter := x.lastCounter, spad := x.spad, changed := ⟨⟨List.replicate 7 none⟩, rfl⟩, events := [] }

/-- What a validation of one module comes to: the module after it, whether bitslice continuity was violated, the events
and the verdict (R181). -/
structure Validation where
  module : Module
  violation : Bool
  events : List DiagEvent
  verdict : Verdict
deriving DecidableEq, Repr

/-- The validation after an event signature matched (R184). -/
def esValidation (m : Nat) (x : Module) : Validation :=
  { module := { x with lastErrs := 0 }, violation := false, events := [.esSkip m],
    verdict := { ok := true, ec := 0, es := true } }

/-- The module with the continuity state the word loop leaves. -/
def afterWords (x : Module) (a : WordLoop) : Module :=
  { x with lastCounter := a.lastCounter, spad := a.spad, lastErrs := a.ec }

/-- ValidateModule(m) of R181 on the module's register set and its slice, in the order of R336. -/
def validateSlice (p : Params) (config : DWord) (m : Nat) (x : Module) (slice : List Word) :
    Except Fault Validation :=
  if eventSignature p.esMagic slice then .ok (esValidation m x)
  else
    let a := checkWords config m 0 (x.table.zip slice) (wordLoopStart x)
    let events := a.events ++ echoScratchpad m a.changed
    let verdict : Verdict := { ok := a.ec == 0, ec := a.ec, es := false }
    if x.variant ≠ .standard ∧ a.ec = 0 then
      if slice.length < 32 then .error (.bitsliceSliceShort m)
      else
        let o := bitsliceStep p config m (afterWords x a) (slice.take 32)
        .ok { module := o.module, violation := o.violation, events := events ++ o.events, verdict := verdict }
    else .ok { module := afterWords x a, violation := false, events := events, verdict := verdict }

/-- The state after a validation of module m: MOD[m]'s dynamic fields, BS_ERR_TOTAL, DIAG (R181), and ec added to
ERR_TOTAL, as VALIDATE and STEP both do (R37, R180, R265). -/
def State.withValidation (m : Nat) (v : Validation) (s : State) : State :=
  { s with
    modules := s.modules.set m v.module
    bsErrTotal := if v.violation then s.bsErrTotal + 1 else s.bsErrTotal
    diag := s.diag ++ v.events
    errTotal := s.errTotal + v.verdict.ec.zeroExtend 64 }

/-- Validates module m, the register set x, on its slice of F (R78, R181), and adds ec to ERR_TOTAL. -/
def validateModule (m : Nat) (x : Module) (s : State) : Except Fault (State × Verdict) :=
  match frameSlice s.frame (x.offset.toNat / 4) x.table.length with
  | none => .error (.sliceOutsideFrame m)
  | some slice =>
    match validateSlice s.params s.config m x slice with
    | .error f => .error f
    | .ok v => .ok (s.withValidation m v, v.verdict)

/-- VALIDATE (R180). A module index of NMODULES or more is an operand-shape error, like a wrong payload length (R335). -/
def execValidate (m : Byte) (frame : List Word) (s : State) : Host.Outcome State Fault Refusal :=
  guarded (frame.length == frameWords s && decide (m.toNat < s.modules.length)) [.config] s <|
    match s.modules[m.toNat]? with
    | none => .next (s.raise .cmdIllegal)
    | some x =>
      match validateModule m.toNat x { s with frame := frame } with
      | .error f => .fault f
      | .ok (t, v) => .next (t.answer (verdictWord v))

end Sys2Proof.Machine
end

