-- ==== Sys2Proof/Machine/Composer.lean ====
section
/-! DEFINITION. The frame composer (43_frame_composer.md): one frame's step, STEP, and RUN as its repetition. -/

namespace Sys2Proof.Machine

/-- How the module loop ends (R265). -/
inductive LoopResult where
  /-- Every module was ok. -/
  | accepted (s : State)
  /-- Module m was the first that was not ok. -/
  | corrupt (m : Nat) (s : State)
  /-- A validation stopped. -/
  | stopped (f : Fault)

/-- The module loop over the next k modules from m on (R265): it stops at the first that is not ok. -/
def validateFrom : Nat → Nat → State → LoopResult
  | 0, _, s => .accepted s
  | k + 1, m, s =>
    match s.modules[m]? with
    | none => .accepted s
    | some x =>
      match validateModule m x s with
      | .error f => .stopped f
      | .ok (t, v) => if v.ok then validateFrom k (m + 1) t else .corrupt m t

/-- The corrupt record of a run that ends at module m (R39, R269), and the end of that run. -/
def State.endCorrupt (m : Nat) (s : State) : State :=
  State.endRun .corrupt
    { s with
      corruptFrame := s.frameCount + 1
      corruptModule := BitVec.ofNat 64 m
      corruptStreamOffset := s.byteCount
      corruptModuleOffset :=
        match s.modules[m]? with
        | some x => x.offset
        | none => 0 }

/-- The counters of an accepted frame (R267). -/
def State.countFrame (s : State) : State :=
  { s with frameCount := s.frameCount + 1, byteCount := s.byteCount + BitVec.ofNat 64 (frameBytes s) }

/-- The Progress event of R271, if this frame brings FRAME_COUNT to a multiple of PROGRESS_PERIOD. -/
def progressEvents (s : State) : List DiagEvent :=
  if s.params.progressPeriod ≠ 0 ∧ s.frameCount.toNat % s.params.progressPeriod = 0 then
    [.progress s.frameCount s.byteCount]
  else []

/-- The sample ceiling: with CEIL_EN = 1, FRAME_COUNT > CEILING ends the run COMPLETED (R268). -/
def State.checkCeiling (s : State) : State :=
  if ceilEn s.config ∧ s.ceiling < s.frameCount then s.endRun .completed else s

/-- An accepted frame whose bytes were b: forwarding, counters, progress, ceiling, in that order (R262, R266 to R268,
R271). -/
def State.acceptFrame (b : List Byte) (s : State) : State :=
  let t := (s.sinkWrite b).countFrame
  (t.emit (progressEvents t)).checkCeiling

/-- What one frame's step comes to, before its response. -/
inductive FrameResult where
  /-- The read has not returned (R71, R378). -/
  | waits
  /-- A validation stopped. -/
  | stopped (f : Fault)
  /-- `raise Fatal(code)` in this state. -/
  | raised (code : FatalCode) (s : State)
  /-- The step is over, but for RESULT and the response. -/
  | finished (s : State)

/-- The part of STEP after the read returned the bytes b (R262, R263, R265). -/
def frameBody (b : List Byte) (s : State) : FrameResult :=
  if b.length < frameBytes s then .finished (s.endRun .endOfStream)
  else
    match validateFrom s.modules.length 0 { s with frame := decodeFrame b } with
    | .stopped f => .stopped f
    | .corrupt m t => .finished (t.endCorrupt m)
    | .accepted t => .finished (t.acceptFrame b)

/-- One frame: the body of STEP in phase CONFIG or RUNNING (R262). -/
def frameStep (s : State) : FrameResult :=
  if s.phase = .config ∧ s.modules.length = 0 then .raised .cfgNoModules s
  else
    match streamRead (frameBytes s) s.input with
    | .waits => .waits
    | .error st => .raised .inputUnreadable { s with phase := .running, input := st }
    | .bytes b st => frameBody b { s with phase := .running, input := st }

/-- RESULT <- STATUS (R262). -/
def State.resultStatus (s : State) : State := { s with result := statusWord s }

/-- STEP (R262). A STEP whose read does not return does not complete: the command stays at the command port and the state
is unchanged (R378, 93_implementation_defined.md I10). -/
def execStep (s : State) : Host.Outcome State Fault Refusal :=
  guarded true [.config, .running] s <|
    match frameStep s with
    | .waits => .next s
    | .stopped f => .fault f
    | .raised code t => .next (t.raise code)
    | .finished t => .next (t.answer (statusWord t))

/-- RUN (R272), one STEP a step of the machine. While PHASE stays RUNNING the command has not completed: it stays at the
command port with no response, and the next step of the machine is the next STEP of the repetition. So RUN has no bound
(R378). -/
def execRun (s : State) : Host.Outcome State Fault Refusal :=
  guarded true [.config, .running] s <|
    match frameStep s with
    | .waits => .next s
    | .stopped f => .fault f
    | .raised code t => .next (t.raise code)
    | .finished t => if t.phase = .running then .next t.resultStatus else .next (t.answer (statusWord t))

end Sys2Proof.Machine
end

