-- ==== Sys2Proof/Machine/Operands.lean ====
section
/-! DEFINITION. The operand forms: the register numbers of READ_REG (R111 to R113), the tag word (R110), and the
definition text `<site>=<banks>` up to its bank text (R106, R140, R141). -/

namespace Sys2Proof.Machine

/-- The tag word: VALUE in bits 7:0, KIND in bits 10:8 (R110). -/
def tagWord : Tag → Word
  | .id t => t.zeroExtend 32
  | .noCheck => 0x100
  | .sampleCounter => 0x200
  | .scratchpad j => BitVec.ofNat 32 (0x300 + j.val)
  | .pmod => 0x400

/-- The global registers (R111). -/
def globalRegister (s : State) (reg : Nat) : Option DWord :=
  match reg with
  | 0x00 => some (statusWord s)
  | 0x01 => some s.config
  | 0x02 => some s.ceiling
  | 0x03 => some (BitVec.ofNat 64 s.modules.length)
  | 0x04 => some (BitVec.ofNat 64 (frameWords s))
  | 0x05 => some s.frameCount
  | 0x06 => some s.byteCount
  | 0x07 => some s.errTotal
  | 0x08 => some s.corruptFrame
  | 0x09 => some s.corruptModule
  | 0x0A => some s.corruptStreamOffset
  | 0x0B => some s.corruptModuleOffset
  | 0x0C => some s.result
  | 0x0D => some s.bsErrTotal
  | 0x0E => some s.buildLen
  | _ => none

/-- The registers of one module below its scratchpad (R112). -/
def moduleFixedRegister (x : Module) (reg : Nat) : Option DWord :=
  match reg with
  | 0x20 => some (x.site.zeroExtend 64)
  | 0x21 => some (BitVec.ofNat 64 x.table.length)
  | 0x22 => some x.offset
  | 0x23 => some (BitVec.ofNat 64 (variantValue x.variant))
  | 0x24 => some (x.lastCounter.zeroExtend 64)
  | 0x25 => some (x.lastErrs.zeroExtend 64)
  | 0x26 => some (if x.bsPrimed then 1 else 0)
  | 0x27 => some (x.bsSeq.zeroExtend 64)
  | 0x28 => some (x.bsAux0.zeroExtend 64)
  | 0x29 => some (x.bsAux1.zeroExtend 64)
  | 0x2A => some x.bsErr
  | _ => none

/-- The registers of one module (R112): SPAD from 0x30, TABLE from 0x40, an index past LEN being none. -/
def moduleRegister (x : Module) (reg : Nat) : Option DWord :=
  if reg < 0x30 then moduleFixedRegister x reg
  else if reg < 0x37 then x.spad[reg - 0x30]?.map (fun v => v.zeroExtend 64)
  else if reg < 0x40 then none
  else if reg < 0x69 then x.table[reg - 0x40]?.map (fun t => (tagWord t).zeroExtend 64)
  else none

/-- The build buffer (R113): an index of BUILD_LEN or more is none. -/
def buildRegister (s : State) (i : Nat) : Option DWord :=
  if i < s.buildLen.toNat then s.buildTag[i]?.map (fun t => t.zeroExtend 64) else none

/-- The register that REG and M name, if READ_REG may read it (R303). -/
def readRegister (s : State) (reg m : Byte) : Option DWord :=
  if reg.toNat < 0x20 then
    if m = 0 then globalRegister s reg.toNat else none
  else if reg.toNat < 0x80 then
    match s.modules[m.toNat]? with
    | some x => moduleRegister x reg.toNat
    | none => none
  else
    if m = 0 then buildRegister s (reg.toNat - 0x80) else none

/-- The bytes before and after the first "=" (R140). -/
def splitDefinition : List Byte → Option (List Byte × List Byte)
  | [] => none
  | b :: rest =>
    if b = 0x3D then some ([], rest)
    else
      match splitDefinition rest with
      | some (site, banks) => some (b :: site, banks)
      | none => none

/-- "0".."9" (R107). -/
def isDigit (b : Byte) : Bool := 0x30 ≤ b.toNat && b.toNat ≤ 0x39

/-- The unsigned decimal number a sequence of digits spells, the digits before it being worth `acc` (R141). -/
def decimalFrom (acc : Nat) : List Byte → Nat
  | [] => acc
  | b :: rest => decimalFrom (10 * acc + (b.toNat - 0x30)) rest

/-- The site text: digits only, at least one, value at most 6 (R141). -/
def parseSite (text : List Byte) : Except FatalCode Byte :=
  if text.isEmpty || !text.all isDigit then .error .cfgMalformed
  else if 6 < decimalFrom 0 text then .error .cfgBadSite
  else .ok (BitVec.ofNat 8 (decimalFrom 0 text))

end Sys2Proof.Machine
end

