-- ==== Sys2Proof/Machine/Control.lean ====
section
/-! DEFINITION. The control commands (44_control.md): RESET, SET_CONFIG, SET_CEILING and READ_REG. -/

namespace Sys2Proof.Machine

/-- Every register at its reset value and no modules (R53, R300); the parameters, the command port, the stream, the sink,
DIAG and the responses given are not touched (R54, R371). -/
def State.resetRegisters (s : State) : State :=
  { State.reset with
    params := s.params
    queue := s.queue
    input := s.input
    sink := s.sink
    diag := s.diag
    responses := s.responses }

/-- RESET (R300): legal in every phase. -/
def execReset (s : State) : Host.Outcome State Fault Refusal :=
  .next (s.resetRegisters.answer 0)

/-- SET_CONFIG (R301). -/
def execSetConfig (flags : BitVec 5) (s : State) : Host.Outcome State Fault Refusal :=
  guarded true [.config] s <|
    .next (State.answer (flags.zeroExtend 64) { s with config := flags.zeroExtend 64 })

/-- SET_CEILING (R302): CEILING is {hi, lo}. -/
def execSetCeiling (payload : List Word) (s : State) : Host.Outcome State Fault Refusal :=
  guarded (payload.length == 2) [.config] s <|
    match payload with
    | [lo, hi] => .next (State.answer (hi ++ lo) { s with ceiling := hi ++ lo })
    | _ => .next (s.raise .cmdIllegal)

/-- READ_REG (R303): legal in every phase; RESULT and every other register are unchanged. A READ_REG that fails its checks
is illegal, and in FATAL Refused (R335, R343). -/
def execReadReg (reg m : Byte) (s : State) : Host.Outcome State Fault Refusal :=
  match readRegister s reg m with
  | some v => .next (s.respond (.ok v))
  | none => .next s.illegal

end Sys2Proof.Machine
end

