-- ==== Sys2Proof/WellFormed.lean ====
section
/-! DEFINITION. Well-formed instructions: the payload lengths rule R102 demands, as far as they are known from the
command alone. The length of VALIDATE's payload is FRAME_WORDS, which only the state knows; here it is bounded by the
widest frame of rule R8. -/

namespace Sys2Proof

/-- The widest frame of R8: 256 modules of 41 words. -/
def maxFrameWords : Nat := 256 * 41

/-- The payload has the length R102 demands. -/
def Instr.wellFormed : Instr → Bool
  | .reset => true
  | .setConfig _ => true
  | .setCeiling payload => payload.length == 2
  | .addModule n text => text.length == n.toNat
  | .build n text => text.length == n.toNat
  | .validate _ frame => frame.length ≤ maxFrameWords
  | .collect _ _ lanes => lanes.length == 32
  | .step => true
  | .run => true
  | .readReg _ _ => true
  | .bankA => true
  | .bankB => true
  | .bankC => true
  | .bankD => true
  | .bankS => true
  | .bankP => true
  | .bankL => true
  | .bankM => true

end Sys2Proof
end

