-- ==== Sys2Proof/Decode.lean ====
section
/-! DEFINITION. The decoder, total on every command word with every payload and on every definition byte, and after it
the encoder. Both are written from the tables of rules R102 and R107. -/

namespace Sys2Proof

/-- What the block fetches: a command word with its payload (R100), or one byte of bank text (R107). -/
inductive Code where
  | command (cw : Word) (payload : Payload)
  | letter (b : Byte)
deriving DecidableEq, Repr

/-- Why a code spells no instruction. -/
inductive DecodeError where
  /-- OP in 0xA..0xF (R103). -/
  | reservedOp
  /-- A reserved ARGS bit is set (R104). -/
  | reservedBit
  /-- A payload where R102 has none, or words where it has bytes, or bytes where it has words (R104). -/
  | payloadShape
  /-- A byte that is not one of the eight bank letters (R142). -/
  | illegalLetter
deriving DecidableEq, Repr

/-- The OP field, bits 31:28 (R101). -/
def opField (cw : Word) : BitVec 4 := cw.extractLsb' 28 4

/-- The field of bits 7:0: N, M of VALIDATE, and REG (R102). -/
def lowByteField (cw : Word) : Byte := cw.extractLsb' 0 8

/-- The field of bits 15:8: M of READ_REG (R102). -/
def midByteField (cw : Word) : Byte := cw.extractLsb' 8 8

/-- The field of bits 4:0: FLAGS and BIT (R102). -/
def lowFiveField (cw : Word) : BitVec 5 := cw.extractLsb' 0 5

/-- ORIENT, bit 8: 0 LSB-first, 1 MSB-first (R102). -/
def orientField (cw : Word) : Orient := if cw.getLsbD 8 then .msb else .lsb

/-- A word selects a row of R102's table when `(CW & mask) == match`. -/
def selects (cw mask word : Word) : Bool := cw &&& mask == word

/-- The payload as definition bytes; an empty payload is an empty sequence of either kind. -/
def Payload.asBytes : Payload → Option (List Byte)
  | .none => some []
  | .bytes d => some d
  | .words [] => some []
  | .words (_ :: _) => Option.none

/-- The payload as words; an empty payload is an empty sequence of either kind. -/
def Payload.asWords : Payload → Option (List Word)
  | .none => some []
  | .bytes [] => some []
  | .bytes (_ :: _) => Option.none
  | .words w => some w

/-- The payload carries nothing. -/
def Payload.isEmpty : Payload → Bool
  | .none => true
  | .bytes d => d.isEmpty
  | .words w => w.isEmpty

/-- A command without payload (R104: any other length is illegal). -/
def noPayload (p : Payload) (i : Instr) : Except DecodeError Instr :=
  if p.isEmpty then .ok i else .error .payloadShape

/-- A command with a byte payload. -/
def bytePayload (p : Payload) (f : List Byte → Instr) : Except DecodeError Instr :=
  match p.asBytes with
  | some d => .ok (f d)
  | none => .error .payloadShape

/-- A command with a word payload. -/
def wordPayload (p : Payload) (f : List Word → Instr) : Except DecodeError Instr :=
  match p.asWords with
  | some w => .ok (f w)
  | none => .error .payloadShape

/-- The row is selected, or a reserved bit is set (R104). -/
def inRow (cw mask word : Word) (row : Except DecodeError Instr) : Except DecodeError Instr :=
  if selects cw mask word then row else .error .reservedBit

/-- Command-word decoding, R101 to R104. -/
def decodeCommand (cw : Word) (p : Payload) : Except DecodeError Instr :=
  match (opField cw).toNat with
  | 0x0 => inRow cw 0xFFFFFFFF 0x00000000 (noPayload p .reset)
  | 0x1 => inRow cw 0xFFFFFFE0 0x10000000 (noPayload p (.setConfig (lowFiveField cw)))
  | 0x2 => inRow cw 0xFFFFFFFF 0x20000000 (wordPayload p .setCeiling)
  | 0x3 => inRow cw 0xFFFFFF00 0x30000000 (bytePayload p (.addModule (lowByteField cw)))
  | 0x4 => inRow cw 0xFFFFFF00 0x40000000 (bytePayload p (.build (lowByteField cw)))
  | 0x5 => inRow cw 0xFFFFFF00 0x50000000 (wordPayload p (.validate (lowByteField cw)))
  | 0x6 => inRow cw 0xFFFFFEE0 0x60000000 (wordPayload p (.collect (lowFiveField cw) (orientField cw)))
  | 0x7 => inRow cw 0xFFFFFFFF 0x70000000 (noPayload p .step)
  | 0x8 => inRow cw 0xFFFFFFFF 0x80000000 (noPayload p .run)
  | 0x9 => inRow cw 0xFFFF0000 0x90000000 (noPayload p (.readReg (lowByteField cw) (midByteField cw)))
  | _ => .error .reservedOp

/-- The letter a byte of bank text spells (R107; the byte values are ASCII, 93_implementation_defined.md K1). -/
def letterOf (b : Byte) : Option BankLetter :=
  match b.toNat with
  | 0x41 => some .A
  | 0x42 => some .B
  | 0x43 => some .C
  | 0x44 => some .D
  | 0x53 => some .S
  | 0x50 => some .P
  | 0x6C => some .l
  | 0x6D => some .m
  | _ => none

/-- The instruction of a bank letter. -/
def letterInstr : BankLetter → Instr
  | .A => .bankA
  | .B => .bankB
  | .C => .bankC
  | .D => .bankD
  | .S => .bankS
  | .P => .bankP
  | .l => .bankL
  | .m => .bankM

/-- The decoder. -/
def decode : Code → Except DecodeError Instr
  | .command cw p => decodeCommand cw p
  | .letter b =>
    match letterOf b with
    | some c => .ok (letterInstr c)
    | none => .error .illegalLetter

/-- The payload of zeros that goes with a command word, of the length R102 demands; FRAME_WORDS is `frameWords`. -/
def zeroPayload (frameWords : Nat) (cw : Word) : Payload :=
  match (opField cw).toNat with
  | 0x2 => .words (List.replicate 2 0)
  | 0x3 => .bytes (List.replicate (lowByteField cw).toNat 0)
  | 0x4 => .bytes (List.replicate (lowByteField cw).toNat 0)
  | 0x5 => .words (List.replicate frameWords 0)
  | 0x6 => .words (List.replicate 32 0)
  | _ => .none

/-- The code of a row of the opcode table: a command word of 32 bits with a payload of zeros, or a letter of 8. -/
def tableCode (frameWords nbits w : Nat) : Option Code :=
  if nbits = 32 then
    if w < 2 ^ 32 then some (.command (BitVec.ofNat 32 w) (zeroPayload frameWords (BitVec.ofNat 32 w))) else none
  else if nbits = 8 then
    if w < 2 ^ 8 then some (.letter (BitVec.ofNat 8 w)) else none
  else none

/-- The instruction the decoder reads from a table word. VALIDATE's payload is FRAME_WORDS words, none before a module
is registered. -/
def decodeTableWord (nbits w : Nat) : Option Instr :=
  match tableCode 0 nbits w with
  | some c => (decode c).toOption
  | none => none

/-- ORIENT as its bit (R102). -/
def orientBit : Orient → BitVec 1
  | .lsb => 0
  | .msb => 1

/-- The bank letter's byte (R107). -/
def letterByte : BankLetter → Byte
  | .A => 0x41
  | .B => 0x42
  | .C => 0x43
  | .D => 0x44
  | .S => 0x53
  | .P => 0x50
  | .l => 0x6C
  | .m => 0x6D

/-- The encoder: the command word of R102 with its fields in their places, and the payload; or the letter's byte. -/
def encode : Instr → Code
  | .reset => .command 0x00000000 .none
  | .setConfig flags => .command (0x1#4 ++ 0#23 ++ flags) .none
  | .setCeiling payload => .command 0x20000000 (.words payload)
  | .addModule n text => .command (0x3#4 ++ 0#20 ++ n) (.bytes text)
  | .build n text => .command (0x4#4 ++ 0#20 ++ n) (.bytes text)
  | .validate m frame => .command (0x5#4 ++ 0#20 ++ m) (.words frame)
  | .collect bit orient lanes => .command (0x6#4 ++ 0#19 ++ orientBit orient ++ 0#3 ++ bit) (.words lanes)
  | .step => .command 0x70000000 .none
  | .run => .command 0x80000000 .none
  | .readReg reg m => .command (0x9#4 ++ 0#12 ++ m ++ reg) .none
  | .bankA => .letter (letterByte .A)
  | .bankB => .letter (letterByte .B)
  | .bankC => .letter (letterByte .C)
  | .bankD => .letter (letterByte .D)
  | .bankS => .letter (letterByte .S)
  | .bankP => .letter (letterByte .P)
  | .bankL => .letter (letterByte .l)
  | .bankM => .letter (letterByte .m)

end Sys2Proof
end

