-- ==== Sys2Proof/Machine/Layout.lean ====
section
/-! DEFINITION. The bank-layout unit (40_bank_layout.md): the meaning of each bank letter on the table being built, the
scan of a definition text, and the commands BUILD and ADD_MODULE. -/

namespace Sys2Proof.Machine

/-- The letters that are channel groups. -/
def isChannelBank : BankLetter → Bool
  | .A => true
  | .B => true
  | .C => true
  | .D => true
  | .S => false
  | .P => false
  | .l => false
  | .m => false

/-- n = #ABCD: how many channel groups have been accepted, which is the ordinal k of the next one (R146). -/
def channelBanks (lay : Layout) : Nat := (lay.banks.filter isChannelBank).length

/-- The expected-ID byte `(site << 5) | ch` (R108, R149). -/
def expectedId (site : Byte) (ch : Nat) : Byte := (site <<< 5) ||| BitVec.ofNat 8 ch

/-- Four consecutive concrete-ID entries from channel ch on (R146). -/
def idGroup (site : Byte) (ch : Nat) : List Tag :=
  [.id (expectedId site ch), .id (expectedId site (ch + 1)), .id (expectedId site (ch + 2)),
    .id (expectedId site (ch + 3))]

/-- Accepts a letter that has not appeared yet (R143). -/
def acceptLetter (c : BankLetter) (lay : Layout) : Except FatalCode Layout :=
  if c ∈ lay.banks then .error .cfgDupBank else .ok { lay with banks := lay.banks ++ [c] }

/-- A channel group of ordinal k: words 0..3 go behind the lower half's last group (R147), words 4..7 before the upper
half's first (R148), with channels 8k + w (R146). -/
def acceptChannelBank (c : BankLetter) (lay : Layout) : Except FatalCode Layout :=
  match acceptLetter c lay with
  | .ok l =>
    .ok { l with
      lower := lay.lower ++ idGroup lay.site (8 * channelBanks lay)
      upper := idGroup lay.site (8 * channelBanks lay + 4) ++ lay.upper }
  | .error e => .error e

/-- A letter that appends entries after the ABCD block (R153). -/
def acceptTailBank (c : BankLetter) (entries : List Tag) (lay : Layout) : Except FatalCode Layout :=
  match acceptLetter c lay with
  | .ok l => .ok { l with tail := lay.tail ++ entries }
  | .error e => .error e

/-- The eight entries of an S: SampleCounter, then Scratchpad(0..6), or NoCheck seven times without monitoring (R150). -/
def statusEntries (spad : Bool) : List Tag :=
  if spad then
    [.sampleCounter, .scratchpad 0, .scratchpad 1, .scratchpad 2, .scratchpad 3, .scratchpad 4, .scratchpad 5,
      .scratchpad 6]
  else [.sampleCounter, .noCheck, .noCheck, .noCheck, .noCheck, .noCheck, .noCheck, .noCheck]

/-- A contributes 8 concrete-ID entries (R146). -/
def letterA (_spad : Bool) (lay : Layout) : Except FatalCode Layout := acceptChannelBank .A lay

/-- B contributes 8 concrete-ID entries (R146). -/
def letterB (_spad : Bool) (lay : Layout) : Except FatalCode Layout := acceptChannelBank .B lay

/-- C contributes 8 concrete-ID entries (R146). -/
def letterC (_spad : Bool) (lay : Layout) : Except FatalCode Layout := acceptChannelBank .C lay

/-- D contributes 8 concrete-ID entries (R146). -/
def letterD (_spad : Bool) (lay : Layout) : Except FatalCode Layout := acceptChannelBank .D lay

/-- S contributes 8 entries, according to CONFIG.SPAD_MON (R150). -/
def letterS (spad : Bool) (lay : Layout) : Except FatalCode Layout := acceptTailBank .S (statusEntries spad) lay

/-- P contributes one Pmod entry (R151). -/
def letterP (_spad : Bool) (lay : Layout) : Except FatalCode Layout := acceptTailBank .P [.pmod] lay

/-- l contributes no entry and selects LSB-first bitslice mode (R152). -/
def letterL (_spad : Bool) (lay : Layout) : Except FatalCode Layout := acceptLetter .l lay

/-- m contributes no entry and selects MSB-first bitslice mode (R152). -/
def letterM (_spad : Bool) (lay : Layout) : Except FatalCode Layout := acceptLetter .m lay

/-- The effect of a letter on the table being built. -/
def letterEffect : BankLetter → Bool → Layout → Except FatalCode Layout
  | .A => letterA
  | .B => letterB
  | .C => letterC
  | .D => letterD
  | .S => letterS
  | .P => letterP
  | .l => letterL
  | .m => letterM

/-- The left-to-right scan of the bank text: at each position first R142, then R143 (R145). -/
def scanBanks (spad : Bool) : List Byte → Layout → Except FatalCode Layout
  | [], lay => .ok lay
  | b :: rest, lay =>
    match letterOf b with
    | none => .error .cfgBadChar
    | some c =>
      match letterEffect c spad lay with
      | .ok lay' => scanBanks spad rest lay'
      | .error e => .error e

/-- The identity table: the ABCD block, then the S and P entries (R153). -/
def layoutTable (lay : Layout) : List Tag := lay.lower ++ lay.upper ++ lay.tail

/-- VARIANT (R152). -/
def layoutVariant (lay : Layout) : Variant :=
  if .l ∈ lay.banks then .bitsliceLsb else if .m ∈ lay.banks then .bitsliceMsb else .standard

/-- A valid definition's site, table and variant (R155). -/
structure BuiltTable where
  site : Byte
  table : List Tag
  variant : Variant
deriving DecidableEq, Repr

/-- The whole-text checks of R144, in their order, and the finished table. -/
def finishLayout (lay : Layout) : Except FatalCode BuiltTable :=
  if .l ∈ lay.banks ∧ .m ∈ lay.banks then .error .cfgBothOrient
  else if (layoutTable lay).length = 0 then .error .cfgEmpty
  else if (.l ∈ lay.banks ∨ .m ∈ lay.banks) ∧
      ¬(.A ∈ lay.banks ∧ .B ∈ lay.banks ∧ .C ∈ lay.banks ∧ .D ∈ lay.banks) then .error .cfgBsNeedsAbcd
  else .ok { site := lay.site, table := layoutTable lay, variant := layoutVariant lay }

/-- Parse and Build of a definition text, every check in the order of R145. -/
def buildDefinition (spad : Bool) (d : List Byte) : Except FatalCode BuiltTable :=
  match splitDefinition d with
  | none => .error .cfgMalformed
  | some (siteText, bankText) =>
    match parseSite siteText with
    | .error e => .error e
    | .ok site =>
      match scanBanks spad bankText { Layout.idle with site := site } with
      | .error e => .error e
      | .ok lay => finishLayout lay

/-- BUILD_TAG[i] is T[i]'s tag word for i < len(T) and 0 from there on (R157). -/
def buildTags (table : List Tag) : Vector Word 41 :=
  ⟨⟨(table.map tagWord ++ List.replicate 41 0).take 41⟩, by simp⟩

/-- BUILD (R157). -/
def execBuild (n : Byte) (text : List Byte) (s : State) : Host.Outcome State Fault Refusal :=
  guarded (text.length == n.toNat) [.config, .running, .done] s <|
    match buildDefinition (spadMon s.config) text with
    | .error code => .next (s.raise code)
    | .ok b =>
      .next (State.answer (BitVec.ofNat 64 b.table.length)
        { s with buildLen := BitVec.ofNat 64 b.table.length, buildTag := buildTags b.table })

/-- The register set of a new module: static part as built, dynamic part 0 (R53, R158). -/
def newModule (offset : DWord) (b : BuiltTable) : Module :=
  { site := b.site
    offset := offset
    variant := b.variant
    table := b.table
    lastCounter := 0
    spad := ⟨⟨List.replicate 7 0⟩, rfl⟩
    bsPrimed := false
    bsSeq := 0
    bsAux0 := 0
    bsAux1 := 0
    bsErr := 0
    lastErrs := 0 }

/-- ADD_MODULE (R158). -/
def execAddModule (n : Byte) (text : List Byte) (s : State) : Host.Outcome State Fault Refusal :=
  guarded (text.length == n.toNat) [.config] s <|
    if s.modules.length = 256 then .next (s.raise .cfgTooManyModules)
    else
      match buildDefinition (spadMon s.config) text with
      | .error code => .next (s.raise code)
      | .ok b =>
        .next (State.answer (BitVec.ofNat 64 s.modules.length)
          { s with modules := s.modules ++ [newModule (BitVec.ofNat 64 (frameBytes s)) b] })

/-- One letter of the text that stands in the BankLayout unit: its effect on the table being built, or the fault that
ends the definition's command, with the unit at rest again (R55, R143; log entry 4). -/
def execLetter (effect : Bool → Layout → Except FatalCode Layout) (s : State) :
    Host.Outcome State Fault Refusal :=
  if s.phase = .fatal then .next s.refuse
  else
    match effect (spadMon s.config) s.layout with
    | .ok lay => .next { s with layout := lay }
    | .error code => .next (State.raise code { s with layout := Layout.idle })

/-- Bank letter A (R146). -/
def execBankA (s : State) : Host.Outcome State Fault Refusal := execLetter letterA s

/-- Bank letter B (R146). -/
def execBankB (s : State) : Host.Outcome State Fault Refusal := execLetter letterB s

/-- Bank letter C (R146). -/
def execBankC (s : State) : Host.Outcome State Fault Refusal := execLetter letterC s

/-- Bank letter D (R146). -/
def execBankD (s : State) : Host.Outcome State Fault Refusal := execLetter letterD s

/-- Bank letter S (R150). -/
def execBankS (s : State) : Host.Outcome State Fault Refusal := execLetter letterS s

/-- Bank letter P (R151). -/
def execBankP (s : State) : Host.Outcome State Fault Refusal := execLetter letterP s

/-- Bank letter l (R152). -/
def execBankL (s : State) : Host.Outcome State Fault Refusal := execLetter letterL s

/-- Bank letter m (R152). -/
def execBankM (s : State) : Host.Outcome State Fault Refusal := execLetter letterM s

end Sys2Proof.Machine
end

