-- ==== Sys2Proof/Machine/Dispatch.lean ====
section
/-! DEFINITION. The meaning of every instruction: one arm per constructor. -/

namespace Sys2Proof.Machine

def exec (i : Instr) (s : State) : Host.Outcome State Fault Refusal :=
  match i with
  | .reset => Sys2Proof.Machine.execReset s
  | .setConfig flags => Sys2Proof.Machine.execSetConfig flags s
  | .setCeiling payload => Sys2Proof.Machine.execSetCeiling payload s
  | .addModule n text => Sys2Proof.Machine.execAddModule n text s
  | .build n text => Sys2Proof.Machine.execBuild n text s
  | .validate m frame => Sys2Proof.Machine.execValidate m frame s
  | .collect bit orient lanes => Sys2Proof.Machine.execCollect bit orient lanes s
  | .step => Sys2Proof.Machine.execStep s
  | .run => Sys2Proof.Machine.execRun s
  | .readReg reg m => Sys2Proof.Machine.execReadReg reg m s
  | .bankA => Sys2Proof.Machine.execBankA s
  | .bankB => Sys2Proof.Machine.execBankB s
  | .bankC => Sys2Proof.Machine.execBankC s
  | .bankD => Sys2Proof.Machine.execBankD s
  | .bankS => Sys2Proof.Machine.execBankS s
  | .bankP => Sys2Proof.Machine.execBankP s
  | .bankL => Sys2Proof.Machine.execBankL s
  | .bankM => Sys2Proof.Machine.execBankM s

end Sys2Proof.Machine
end

