-- ==== Sys2Proof/Machine/Fetch.lean ====
section
/-! DEFINITION. Where the next instruction comes from: the bank text standing in the BankLayout unit, or the head of the
command port (R30, R100). -/

namespace Sys2Proof.Machine

/-- What the block does next. -/
inductive Fetched where
  /-- Nothing is issued: the block is idle (R350). -/
  | idle
  /-- The host binds a stream (R71, R372). -/
  | bindStream (stream : InputStream)
  /-- A code to decode, and the state to run it in. -/
  | code (c : Code) (s : State)

/-- The next thing to do. A letter leaves the text as it is fetched; a command stays at the port until it completes. -/
def fetch (s : State) : Fetched :=
  match s.layout.text with
  | b :: rest => .code (.letter b) { s with layout := { s.layout with text := rest } }
  | [] =>
    match s.queue with
    | [] => .idle
    | .bindStream st :: _ => .bindStream st
    | .command cw p :: _ => .code (.command cw p) s

/-- The host's binding of a stream: POS starts at 0 (R71). It is no command: no response, no register. DESIGN CHOICE (log
entry 9): the reads that READ_ERROR's ordinals count start at 0 too. DESIGN CHOICE (log entry 2): a binding is taken in
every phase, RUNNING, DONE and FATAL too, where R71, R372 and R381 have the host bind before the first STEP and give a later
binding no effect; in RUNNING the run goes on from the new stream's start with every counter kept, so POS and BYTE_COUNT
(R50) then differ. -/
def State.bind (st : InputStream) (s : State) : State :=
  { s with input := { st with pos := 0, reads := 0 }, queue := s.queue.drop 1 }

/-- A code that spells no instruction: a command is illegal (R103, R104), or Refused in FATAL (R343); a byte of bank
text is CFG_BAD_CHAR (R142). -/
def undecodable (e : DecodeError) (s : State) : State :=
  match e with
  | .reservedOp => s.illegal
  | .reservedBit => s.illegal
  | .payloadShape => s.illegal
  | .illegalLetter =>
    if s.phase = .fatal then s.refuse else State.raise .cfgBadChar { s with layout := Layout.idle }

/-- s with a table row's code where `fetch` finds it first: a letter in the BankLayout unit's text, a command at the
head of the command port with no letter before it. -/
def placeCode (c : Code) (s : State) : State :=
  match c with
  | .letter b => { s with layout := { s.layout with text := b :: s.layout.text } }
  | .command cw p => { s with layout := { s.layout with text := [] }, queue := .command cw p :: s.queue }

end Sys2Proof.Machine
end

