-- ==== Sys2Proof/Machine/Step.lean ====
section
/-! DEFINITION. One step of the machine: idle, a stream bound by the host, or one instruction. -/

namespace Sys2Proof.Machine

/-- One step: fetch, decode, run. Idle keeps all state (R350). -/
def step (s : State) : Host.Outcome State Fault Refusal :=
  match fetch s with
  | .idle => .next s
  | .bindStream st => .next (s.bind st)
  | .code c t =>
    match decode c with
    | .ok i => exec i t
    | .error e => .next (undecodable e t)

/-- s with a table row's instruction where `step` fetches its next one (log entry 5). -/
def State.withFetchWord (s : State) (nbits w : Nat) : State :=
  match tableCode (frameWords s) nbits w with
  | some c => placeCode c s
  | none => s

end Sys2Proof.Machine
end

