-- ==== Sys2Proof/Safety.lean ====
section
/-! DEFINITION. What a safe run is: a step that answers a next state, and the invariant of the registers that 10_state.md
and the rules it names keep. -/

namespace Sys2Proof.Machine

/-- The outcome is a next state: the model neither faults nor refuses. -/
def Answers (o : Host.Outcome State Fault Refusal) : Prop := ∃ t, o = .next t

/-- What R40 to R45, R108 and R192 say of one module's register set at all times. -/
structure ModuleInv (x : Module) : Prop where
  /-- SITE is 0..6 (R40). -/
  site_le : x.site.toNat ≤ 6
  /-- LEN is 1..41 (R40). -/
  len_pos : 0 < x.table.length
  len_le : x.table.length ≤ 41
  /-- An expected ID is at most 0xDF (R108). -/
  ids_le : ∀ t, Tag.id t ∈ x.table → t.toNat ≤ 0xDF
  /-- A bitslice module has at least 32 words (R192), and the first 32 are ID words (D11, D44). -/
  bitslice_len : x.variant ≠ .standard → 32 ≤ x.table.length
  bitslice_ids : x.variant ≠ .standard → ∀ tag ∈ x.table.take 32, ∃ t, tag = .id t
  /-- At most one SampleCounter word (R190), and each scratchpad slot has at most one word (R42). -/
  one_counter : x.table.count .sampleCounter ≤ 1
  one_slot : ∀ j, x.table.count (.scratchpad j) ≤ 1
  /-- A module without a SampleCounter tag keeps LAST_COUNTER 0 for ever (R41). -/
  counter_zero : Tag.sampleCounter ∉ x.table → x.lastCounter = 0
  /-- A slot without a Scratchpad word stays 0 (R42). -/
  slot_zero : ∀ j : Fin 7, Tag.scratchpad j ∉ x.table → x.spad[j] = 0
  /-- Standard modules keep the bitslice registers at 0 (R43). -/
  standard_unprimed : x.variant = .standard → x.bsPrimed = false
  /-- Until a bitslice frame is decoded, the history is at its reset value (R43, R44, R234). -/
  unprimed_zero : x.bsPrimed = false → x.bsSeq = 0 ∧ x.bsAux0 = 0 ∧ x.bsAux1 = 0 ∧ x.bsErr = 0
  /-- LAST_ERRS counts words of the slice (R45, R191). -/
  errs_le : x.lastErrs.toNat ≤ x.table.length

/-- The byte offset at which module m's slice starts: four times the lengths of the modules before it (R78, R260). -/
def sliceOffset (modules : List Module) (m : Nat) : Nat :=
  4 * ((modules.take m).map (fun x => x.table.length)).sum

/-- The invariant of the block's registers. -/
structure Inv (s : State) : Prop where
  /-- NMODULES is 0..256 (R8, R34). -/
  modules_le : s.modules.length ≤ 256
  modules_inv : ∀ x ∈ s.modules, ModuleInv x
  /-- The slices tile the frame in registration order (R78, R260). -/
  offsets_tile : ∀ m x, s.modules[m]? = some x → x.offset.toNat = sliceOffset s.modules m
  /-- CONFIG's reserved bits read 0 (R31). -/
  config_reserved : s.config.toNat < 32
  /-- FATAL_CODE belongs to phase FATAL (R33, R345). -/
  fatal_code : s.phase = .fatal ↔ s.fatalCode ≠ .noFault
  /-- OUTCOME is written when PHASE goes to DONE (R33, R345). -/
  no_outcome : s.phase = .config ∨ s.phase = .running → s.outcome = .none
  done_outcome : s.phase = .done → s.outcome ≠ .none
  /-- A run starts only with a module registered (R345). -/
  run_has_module : s.phase = .running ∨ s.phase = .done → s.modules ≠ []
  /-- No frame is counted before a run (R35, R36). -/
  config_counts : s.phase = .config → s.frameCount = 0
  /-- BYTE_COUNT goes up by FRAME_BYTES whenever FRAME_COUNT goes up by 1 (R36, R267). -/
  byte_count : s.byteCount = s.frameCount * BitVec.ofNat 64 (frameBytes s)
  /-- The corrupt record is 0 unless a run ended CORRUPT (R39). -/
  record_zero : s.outcome ≠ .corrupt →
    s.corruptFrame = 0 ∧ s.corruptModule = 0 ∧ s.corruptStreamOffset = 0 ∧ s.corruptModuleOffset = 0
  /-- Of a run that ended CORRUPT it names the frame after the accepted ones and a registered module (R269). -/
  record_corrupt : s.outcome = .corrupt →
    s.corruptFrame = s.frameCount + 1 ∧ s.corruptStreamOffset = s.byteCount ∧
      ∃ m x, s.modules[m]? = some x ∧ s.corruptModule = BitVec.ofNat 64 m ∧ s.corruptModuleOffset = x.offset
  /-- BS_ERR_TOTAL counts the violations of all modules together (R38, R44). -/
  bs_total : s.bsErrTotal = (s.modules.map (fun x => x.bsErr)).sum
  /-- BUILD_LEN is at most 41 and BUILD_TAG is 0 from there on (R47, R157). -/
  build_len : s.buildLen.toNat ≤ 41
  build_rest : ∀ i (h : i < 41), s.buildLen.toNat ≤ i → s.buildTag[i] = 0

end Sys2Proof.Machine
end

