-- ==== Sys2Proof/Certificates/Slice0/Obligations.lean ====
section
/-! DEFINITION. The statements for the provers, and before them the vocabulary they are written in: what a fault entry,
a refusal and a completed command leave, and the spec's tables written out a second time, apart from the model. -/

open Sys2Proof Sys2Proof.Machine

namespace Sys2Proof.Statement

/-- What R340 leaves of the state s: nothing else changes. -/
def faulted (code : FatalCode) (s : State) : State :=
  { s with
    phase := .fatal
    fatalCode := if s.fatalCode = .noFault then code else s.fatalCode
    diag := s.diag ++ [.fatalEvent code]
    responses := s.responses ++ [.fault code]
    queue := s.queue.drop 1 }

/-- What a Refused command leaves (R343): only the response is given. -/
def refused (s : State) : State :=
  { s with responses := s.responses ++ [.refused], queue := s.queue.drop 1 }

/-- A command completed with the value v (R46, R116). -/
def answered (v : DWord) (s : State) : State :=
  { s with result := v, responses := s.responses ++ [.ok v], queue := s.queue.drop 1 }

/-- A READ_REG completed with the value v: RESULT is not written (R116). -/
def readOut (v : DWord) (s : State) : State :=
  { s with responses := s.responses ++ [.ok v], queue := s.queue.drop 1 }

/-- The bank letters among the instructions. -/
def isLetter : Instr → Bool
  | .bankA | .bankB | .bankC | .bankD | .bankS | .bankP | .bankL | .bankM => true
  | _ => false

/-- The legality table of R304, a row per command; FATAL is R343's. -/
def legalIn : Instr → Phase → Bool
  | .reset, _ => true
  | .readReg _ _, _ => true
  | _, .fatal => false
  | .build _ _, _ => true
  | .collect _ _ _, _ => true
  | .step, .done => false
  | .run, .done => false
  | .step, _ => true
  | .run, _ => true
  | _, .config => true
  | _, _ => false

/-- The operand shape of R335 step 3: payload length (R102) and VALIDATE's module index (R180). -/
def shapeFits (s : State) : Instr → Bool
  | .setCeiling payload => payload.length == 2
  | .addModule n text => text.length == n.toNat
  | .build n text => text.length == n.toNat
  | .validate m frame => frame.length == frameWords s && decide (m.toNat < s.modules.length)
  | .collect _ _ lanes => lanes.length == 32
  | _ => true

/-- The rows of R102: OP, mask, match. -/
def rows : List (Nat × Word × Word) :=
  [(0x0, 0xFFFFFFFF, 0x00000000), (0x1, 0xFFFFFFE0, 0x10000000), (0x2, 0xFFFFFFFF, 0x20000000),
    (0x3, 0xFFFFFF00, 0x30000000), (0x4, 0xFFFFFF00, 0x40000000), (0x5, 0xFFFFFF00, 0x50000000),
    (0x6, 0xFFFFFEE0, 0x60000000), (0x7, 0xFFFFFFFF, 0x70000000), (0x8, 0xFFFFFFFF, 0x80000000),
    (0x9, 0xFFFF0000, 0x90000000)]

/-- The number of units in a payload. -/
def payloadLength : Payload → Nat
  | .none => 0
  | .bytes d => d.length
  | .words w => w.length

/-- The payload length R102 demands of a command word. -/
def demandedLength (s : State) (cw : Word) : Nat :=
  match (cw.extractLsb' 28 4).toNat with
  | 0x2 => 2
  | 0x3 => (cw.extractLsb' 0 8).toNat
  | 0x4 => (cw.extractLsb' 0 8).toNat
  | 0x5 => frameWords s
  | 0x6 => 32
  | _ => 0

/-- The letters A, B, C and D of a bank text. -/
def channelLetters (banks : List BankLetter) : List BankLetter :=
  banks.filter fun c => c = .A ∨ c = .B ∨ c = .C ∨ c = .D

/-- Position p of the ABCD block of n letters, by the inverse map of R155. -/
def blockTag (site n p : Nat) : Tag :=
  let channel := if p < 4 * n then 8 * (p / 4) + p % 4 else 8 * (n - 1 - (p - 4 * n) / 4) + 4 + p % 4
  .id (BitVec.ofNat 8 (32 * site + channel))

/-- The entries a letter appends after the ABCD block (R150, R151, R153). -/
def tailTags (spad : Bool) : BankLetter → List Tag
  | .S => .sampleCounter :: (List.finRange 7).map (fun j => if spad then .scratchpad j else .noCheck)
  | .P => [.pmod]
  | _ => []

/-- Build's table (R155). -/
def specTable (spad : Bool) (site : Nat) (banks : List BankLetter) : List Tag :=
  (List.range (8 * (channelLetters banks).length)).map (blockTag site (channelLetters banks).length) ++
    banks.flatMap (tailTags spad)

/-- Build's variant (R152, R155). -/
def specVariant (banks : List BankLetter) : Variant :=
  if .l ∈ banks then .bitsliceLsb else if .m ∈ banks then .bitsliceMsb else .standard

/-- The table length of R154. -/
def specLength (banks : List BankLetter) : Nat :=
  8 * (channelLetters banks).length + (if .S ∈ banks then 8 else 0) + (if .P ∈ banks then 1 else 0)

/-- A bank text as bytes. -/
def bankText (banks : List BankLetter) : List Byte := banks.map letterByte

/-- The number that a sequence of decimal digits spells (R141). -/
def siteValue (siteText : List Byte) : Nat := siteText.foldl (fun n b => 10 * n + (b.toNat - 0x30)) 0

/-- The site text spells a good site: one or more digits, leading zeros allowed, of any length (R141). -/
def spellsSite (siteText : List Byte) (site : Nat) : Prop :=
  siteText ≠ [] ∧ (∀ b ∈ siteText, 0x30 ≤ b.toNat ∧ b.toNat ≤ 0x39) ∧ siteValue siteText = site ∧ site ≤ 6

/-- The definition text `<site>=<banks>`. -/
def definitionText (siteText : List Byte) (banks : List BankLetter) : List Byte :=
  siteText ++ 0x3D :: bankText banks

/-- The whole-text checks of R144 pass. -/
def wholeTextOk (banks : List BankLetter) : Prop :=
  ¬(.l ∈ banks ∧ .m ∈ banks) ∧ specLength banks ≠ 0 ∧
    ((.l ∈ banks ∨ .m ∈ banks) → .A ∈ banks ∧ .B ∈ banks ∧ .C ∈ banks ∧ .D ∈ banks)

/-- The event signature at the start of a slice (R183). -/
def signature (magic : Word) (slice : List Word) : Prop :=
  4 ≤ slice.length ∧ ∀ k, k < 4 → slice[k]? = some magic

/-- A word of the slice fails its policy (R185 to R189); `last` is LAST_COUNTER before the validation. -/
def wordFails (mask last : Word) : Tag × Word → Bool
  | (.noCheck, _) => false
  | (.pmod, _) => false
  | (.scratchpad _, _) => false
  | (.sampleCounter, v) => v != last + 1
  | (.id t, v) => v &&& mask != t.zeroExtend 32 &&& mask

/-- MASK (R109). -/
def mask (config : DWord) : Word := if config.getLsbD 0 then 0x1F else 0xFF

/-- The error_count of a slice: its failing words. -/
def errorCount (config : DWord) (x : Module) (slice : List Word) : Word :=
  BitVec.ofNat 32 ((x.table.zip slice).countP (wordFails (mask config) x.lastCounter))

/-- VALIDATE m, with the frame f, reaches the validation of the module x on the slice, and no event signature matches. -/
structure ReachesWords (s : State) (m : Byte) (f : List Word) (x : Module) (slice : List Word) : Prop where
  phase : s.phase = .config
  length : f.length = frameWords s
  module : s.modules[m.toNat]? = some x
  slice_eq : frameSlice f (x.offset.toNat / 4) x.table.length = some slice
  unsigned : ¬signature s.params.esMagic slice
  one_counter : x.table.count .sampleCounter ≤ 1
  one_slot : ∀ j, x.table.count (.scratchpad j) ≤ 1
  bitslice_len : x.variant ≠ .standard → 32 ≤ x.table.length

/-- What module m's validation on the frame f gives (R181), if its slice lies in the frame. -/
def moduleResult (s : State) (f : List Word) (m : Nat) (x : Module) : Option Validation :=
  match frameSlice f (x.offset.toNat / 4) x.table.length with
  | none => none
  | some slice => (validateSlice s.params s.config m x slice).toOption

/-- The Word events of a validation of module m: one for every word, in index order, when CONFIG.VERBOSE = 1 (R193). -/
def wordEvents (config : DWord) (m : Nat) (x : Module) (slice : List Word) : List DiagEvent :=
  if config.getLsbD 3 then
    (x.table.zip slice).zipIdx.map fun e =>
      .word m e.2 e.1.1 e.1.2 (!wordFails (mask config) x.lastCounter e.1)
  else []

/-- The SpadChange events of a validation of module m: one for every changed slot, in increasing order (R187, R194). -/
def spadEvents (m : Nat) (x : Module) (slice : List Word) : List DiagEvent :=
  (List.finRange 7).filterMap fun j =>
    match (x.table.zip slice).find? (fun e => e.1 = Tag.scratchpad j) with
    | some (_, v) => if v ≠ x.spad[j] then some (.spadChange m j x.spad[j] v) else none
    | none => none

/-- The events of the validations of the first k modules on the frame f, in registration order. -/
def eventsOfFirst (s : State) (f : List Word) (k : Nat) : List DiagEvent :=
  (s.modules.take k).zipIdx.flatMap fun e =>
    match moduleResult s f e.2 e.1 with
    | some v => v.events
    | none => []

/-- How many of the first k modules violate bitslice continuity on the frame f. -/
def violationsOfFirst (s : State) (f : List Word) (k : Nat) : Nat :=
  (s.modules.take k).zipIdx.countP fun e =>
    match moduleResult s f e.2 e.1 with
    | some v => v.violation
    | none => false

/-- STEP may read a frame: a run is on, or it can begin (R262). -/
def canStep (s : State) : Prop := s.phase = .running ∨ (s.phase = .config ∧ s.modules ≠ [])

/-- The instructions that write the state a command's own rules give it (R52). -/
def validates : Instr → Bool
  | .validate _ _ | .step | .run | .reset => true
  | _ => false

end Sys2Proof.Statement

open Sys2Proof.Statement

/-! ## Encoding -/

/-- R101, R102, R107: decoding the encoding of a well-formed instruction gives it back. -/
def Obligations.DecodeEncodeRoundTrip : Prop :=
  ∀ i : Instr, i.wellFormed = true → decode (encode i) = .ok i

/-- R102, R104, R107: the other direction. A code that decodes is the encoding of what it decodes to, so no bit of the
word is dropped and no reserved bit is accepted. An empty payload may be written in any of its three forms: log entry
11. -/
def Obligations.EncodeDecodeGivesTheWord : Prop :=
  (∀ cw p i, decode (.command cw p) = .ok i →
    ∃ p', encode i = .command cw p' ∧ (p' = p ∨ (p.isEmpty = true ∧ p'.isEmpty = true))) ∧
  (∀ b i, decode (.letter b) = .ok i → encode i = .letter b)

/-- 95_test_vectors.md 2.1 and R107: command words and letters written out by hand decode to their instructions. -/
def Obligations.WrittenWordsDecode : Prop :=
  decode (.command 0x00000000 .none) = .ok .reset ∧
  decode (.command 0x1000001F .none) = .ok (.setConfig 0x1F) ∧
  decode (.command 0x20000000 (.words [2, 0])) = .ok (.setCeiling [2, 0]) ∧
  decode (.command 0x30000003 (.bytes [0x32, 0x3D, 0x53])) = .ok (.addModule 3 [0x32, 0x3D, 0x53]) ∧
  decode (.command 0x6000011F (.words [])) = .ok (.collect 31 .msb []) ∧
  decode (.command 0x90000124 .none) = .ok (.readReg 0x24 1) ∧
  decode (.letter 0x53) = .ok .bankS ∧
  decode (.letter 0x6C) = .ok .bankL ∧
  decode (.command 0x90010000 .none) = .error .reservedBit

/-! ## The step -/

/-- A step runs the decoded instruction. A command runs in the state as it stands and leaves the port only when it
completes; a letter is taken off the bank text as it is fetched (the letters' single execution is the model's: log entry
4). -/
def Obligations.StepRunsDecodedInstruction : Prop :=
  (∀ (s : State) (cw : Word) (p : Payload) (q : List HostItem) (i : Instr), s.layout.text = [] →
    s.queue = .command cw p :: q → decode (.command cw p) = .ok i → i.wellFormed = true → step s = exec i s) ∧
  (∀ (s : State) (b : Byte) (rest : List Byte) (i : Instr), s.layout.text = b :: rest → decode (.letter b) = .ok i →
    i.wellFormed = true → step s = exec i { s with layout := { s.layout with text := rest } })

/-- R350: between commands the block is idle and keeps all its state. -/
def Obligations.IdleKeepsState : Prop :=
  ∀ s : State, s.layout.text = [] → s.queue = [] → step s = .next s

/-- R71: binding a stream sets the read position to 0 and changes nothing else but the port. That a binding may stand in
the port's queue, and is taken in every phase, is the model's choice: log entry 2. That the count of reads starts again is
too: log entry 9. -/
def Obligations.BindingStartsTheStream : Prop :=
  ∀ (s : State) (st : InputStream) (q : List HostItem), s.layout.text = [] → s.queue = .bindStream st :: q →
    step s = .next { s with input := { st with pos := 0, reads := 0 }, queue := q }

/-- R103: a reserved operation code raises CMD_ILLEGAL; in FATAL it is Refused like any command (R335, R343). -/
def Obligations.ReservedOpRaisesIllegal : Prop :=
  ∀ (s : State) (cw : Word) (p : Payload) (q : List HostItem), s.layout.text = [] → s.queue = .command cw p :: q →
    0xA ≤ (cw.extractLsb' 28 4).toNat →
    step s = .next (if s.phase = .fatal then refused s else faulted .cmdIllegal s)

/-- R104: a set reserved bit raises CMD_ILLEGAL, a payload of another length than R102 demands does, and every FLAGS
value is legal. In FATAL such a command is Refused (R335, R343). -/
def Obligations.ReservedBitOrLengthRaisesIllegal : Prop :=
  (∀ (s : State) (cw : Word) (p : Payload) (q : List HostItem) (op : Nat) (msk word : Word), s.layout.text = [] →
    s.queue = .command cw p :: q → (op, msk, word) ∈ rows → (cw.extractLsb' 28 4).toNat = op →
    (cw &&& msk ≠ word ∨ payloadLength p ≠ demandedLength s cw) →
    step s = .next (if s.phase = .fatal then refused s else faulted .cmdIllegal s)) ∧
  (∀ flags : BitVec 5, decode (.command (0x10000000 ||| flags.zeroExtend 32) .none) = .ok (.setConfig flags))

/-- R100: a command is answered once, and then the next one is at the port. Only STEP and RUN may still be under way
after a step of the machine (R272, R378): that a machine step of RUN is one STEP, and that a waiting read leaves the state
as it is, are the model's choice (log entries 6 and 7). -/
def Obligations.OneResponsePerCommand : Prop :=
  ∀ (i : Instr) (s t : State), isLetter i = false → exec i s = .next t →
    (∃ r, t.responses = s.responses ++ [r] ∧ t.queue = s.queue.drop 1) ∨
      ((i = .step ∨ i = .run) ∧ t.responses = s.responses ∧ t.queue = s.queue)

/-! ## Control -/

/-- R300, R53, R371: RESET, from any state, gives every register its reset value, and touches neither the parameters, the
stream, the sink nor DIAG. The empty frame buffer and the resting bank-layout unit are the model's: log entries 3 and
4. -/
def Obligations.ResetRestoresEveryRegister : Prop :=
  ∀ s : State, exec .reset s = .next
    { params := s.params, phase := .config, outcome := .none, fatalCode := .noFault, config := 0x02, ceiling := 0,
      frameCount := 0, byteCount := 0, errTotal := 0, bsErrTotal := 0, corruptFrame := 0, corruptModule := 0,
      corruptStreamOffset := 0, corruptModuleOffset := 0, result := 0, buildLen := 0, buildTag := Vector.replicate 41 0,
      modules := [], frame := [], layout := Layout.idle, queue := s.queue.drop 1, input := s.input, sink := s.sink,
      diag := s.diag, responses := s.responses ++ [.ok 0] }

/-- R53, R370: power-up holds the same register values, as STATUS and the other words read them. -/
def Obligations.PowerUpHoldsResetValues : Prop :=
  globalRegister State.reset 0x00 = some 0 ∧ globalRegister State.reset 0x01 = some 0x02 ∧
  (∀ reg, 0x02 ≤ reg → reg ≤ 0x0E → globalRegister State.reset reg = some 0) ∧
  (∀ i (h : i < 41), State.reset.buildTag[i] = 0) ∧ State.reset.modules = []

/-- R301: in CONFIG, SET_CONFIG writes all five fields at once and answers with them. -/
def Obligations.SetConfigWritesFlags : Prop :=
  ∀ (flags : BitVec 5) (s : State), s.phase = .config →
    exec (.setConfig flags) s = .next (answered (flags.zeroExtend 64) { s with config := flags.zeroExtend 64 })

/-- R302: in CONFIG, SET_CEILING writes {hi, lo} and answers with it. -/
def Obligations.SetCeilingWritesCeiling : Prop :=
  ∀ (lo hi : Word) (s : State), s.phase = .config →
    exec (.setCeiling [lo, hi]) s = .next (answered (hi ++ lo) { s with ceiling := hi ++ lo })

/-- R303, R111: READ_REG answers every global register in every phase and changes nothing. -/
def Obligations.ReadRegAnswersGlobalRegisters : Prop :=
  ∀ (s : State) (reg : Byte) (v : DWord),
    (reg, v) ∈ [((0x00 : Byte), statusWord s), (0x01, s.config), (0x02, s.ceiling),
      (0x03, BitVec.ofNat 64 s.modules.length), (0x04, BitVec.ofNat 64 (frameWords s)), (0x05, s.frameCount),
      (0x06, s.byteCount), (0x07, s.errTotal), (0x08, s.corruptFrame), (0x09, s.corruptModule),
      (0x0A, s.corruptStreamOffset), (0x0B, s.corruptModuleOffset), (0x0C, s.result), (0x0D, s.bsErrTotal),
      (0x0E, s.buildLen)] →
    exec (.readReg reg 0) s = .next (readOut v s)

/-- R303, R112, R110: READ_REG answers every register of a registered module, SPAD and TABLE among them, in every phase
and changes nothing. -/
def Obligations.ReadRegAnswersModuleRegisters : Prop :=
  ∀ (s : State) (m : Byte) (x : Module), s.modules[m.toNat]? = some x →
    (∀ (reg : Byte) (v : DWord),
      (reg, v) ∈ [((0x20 : Byte), x.site.zeroExtend 64), (0x21, BitVec.ofNat 64 x.table.length), (0x22, x.offset),
        (0x23, match x.variant with | .standard => 0 | .bitsliceLsb => 1 | .bitsliceMsb => 2),
        (0x24, x.lastCounter.zeroExtend 64), (0x25, x.lastErrs.zeroExtend 64), (0x26, if x.bsPrimed then 1 else 0),
        (0x27, x.bsSeq.zeroExtend 64), (0x28, x.bsAux0.zeroExtend 64), (0x29, x.bsAux1.zeroExtend 64),
        (0x2A, x.bsErr)] →
      exec (.readReg reg m) s = .next (readOut v s)) ∧
    (∀ j : Fin 7, exec (.readReg (BitVec.ofNat 8 (0x30 + j.val)) m) s = .next (readOut (x.spad[j].zeroExtend 64) s)) ∧
    (∀ i tag, i ≤ 40 → x.table[i]? = some tag →
      exec (.readReg (BitVec.ofNat 8 (0x40 + i)) m) s = .next (readOut ((tagWord tag).zeroExtend 64) s))

/-- R303, R113: READ_REG answers BUILD_TAG[i] for i < BUILD_LEN and changes nothing. -/
def Obligations.ReadRegAnswersBuildBuffer : Prop :=
  ∀ (s : State) (i : Nat) (h : i < 41), i < s.buildLen.toNat →
    exec (.readReg (BitVec.ofNat 8 (0x80 + i)) 0) s = .next (readOut (s.buildTag[i].zeroExtend 64) s)

/-- R303, R111 to R113, R343: a register number that is not assigned, a module that does not exist, an index past LEN or
BUILD_LEN or a module field that must be 0 makes READ_REG illegal; in FATAL it is Refused. -/
def Obligations.UnreadableRegisterIsIllegal : Prop :=
  ∀ (s : State) (reg m : Byte),
    ((reg.toNat < 0x20 ∧ (m ≠ 0 ∨ 0x0F ≤ reg.toNat)) ∨
      (0x20 ≤ reg.toNat ∧ reg.toNat < 0x80 ∧
        (s.modules.length ≤ m.toNat ∨ (0x2B ≤ reg.toNat ∧ reg.toNat ≤ 0x2F) ∨ (0x37 ≤ reg.toNat ∧ reg.toNat ≤ 0x3F) ∨
          0x69 ≤ reg.toNat ∨
          ∃ x, s.modules[m.toNat]? = some x ∧ 0x40 ≤ reg.toNat ∧ x.table.length ≤ reg.toNat - 0x40)) ∨
      (0x80 ≤ reg.toNat ∧ (m ≠ 0 ∨ 0xA9 ≤ reg.toNat ∨ s.buildLen.toNat ≤ reg.toNat - 0x80))) →
    exec (.readReg reg m) s = .next (if s.phase = .fatal then refused s else faulted .cmdIllegal s)

/-- R33, R114, R331: the fields of STATUS, and 0 everywhere else. -/
def Obligations.StatusWordHoldsItsFields : Prop :=
  ∀ s : State,
    ((statusWord s).extractLsb' 0 2).toNat =
      (match s.phase with | .config => 0 | .running => 1 | .done => 2 | .fatal => 3) ∧
    ((statusWord s).extractLsb' 2 2).toNat =
      (match s.outcome with | .none => 0 | .endOfStream => 1 | .completed => 2 | .corrupt => 3) ∧
    (statusWord s).extractLsb' 4 4 = 0 ∧
    ((statusWord s).extractLsb' 8 8).toNat =
      (match s.fatalCode with
        | .noFault => 0 | .cfgMalformed => 1 | .cfgBadSite => 2 | .cfgBadChar => 3 | .cfgDupBank => 4
        | .cfgBothOrient => 5 | .cfgEmpty => 6 | .cfgBsNeedsAbcd => 7 | .cfgNoModules => 8 | .cfgTooManyModules => 9
        | .inputUnreadable => 10 | .cmdIllegal => 11 | .cmdPhase => 12) ∧
    (statusWord s).extractLsb' 16 48 = 0

/-- R110: the fields of a tag word, and 0 everywhere else. -/
def Obligations.TagWordHoldsItsFields : Prop :=
  ∀ tag : Tag,
    ((tagWord tag).extractLsb' 0 8).toNat =
      (match tag with | .id t => t.toNat | .scratchpad j => j.val | .noCheck | .sampleCounter | .pmod => 0) ∧
    ((tagWord tag).extractLsb' 8 3).toNat =
      (match tag with | .id _ => 0 | .noCheck => 1 | .sampleCounter => 2 | .scratchpad _ => 3 | .pmod => 4) ∧
    (tagWord tag).extractLsb' 11 21 = 0

/-! ## Faults, phases and refusals -/

/-- R334, R304, R340: a command that the legality table marks "-" raises CMD_PHASE and has no other effect. -/
def Obligations.IllegalPhaseRaisesPhaseFault : Prop :=
  ∀ (i : Instr) (s : State), isLetter i = false → s.phase ≠ .fatal → shapeFits s i = true →
    legalIn i s.phase = false → exec i s = .next (faulted .cmdPhase s)

/-- R333, R335: a wrong operand shape raises CMD_ILLEGAL in every phase but FATAL, before the phase is looked at. -/
def Obligations.WrongShapeRaisesIllegalFirst : Prop :=
  ∀ (i : Instr) (s : State), s.phase ≠ .fatal → shapeFits s i = false → exec i s = .next (faulted .cmdIllegal s)

/-- R343: in FATAL every command but RESET and a READ_REG that passes its checks is Refused, a word that spells no command
too; a Refused command changes nothing but the response; and only RESET leaves FATAL. -/
def Obligations.FatalRefusesAllButResetAndRead : Prop :=
  (∀ (i : Instr) (s : State), isLetter i = false → s.phase = .fatal → i ≠ .reset →
    (∀ reg m, i = .readReg reg m → readRegister s reg m = none) → exec i s = .next (refused s)) ∧
  (∀ (s : State) (cw : Word) (p : Payload) (q : List HostItem) (e : DecodeError), s.layout.text = [] →
    s.queue = .command cw p :: q → s.phase = .fatal → decode (.command cw p) = .error e → step s = .next (refused s)) ∧
  (∀ (i : Instr) (s t : State), s.phase = .fatal → exec i s = .next t →
    (t.phase = .fatal ∧ t.fatalCode = s.fatalCode ∧ t.diag = s.diag) ∨ i = .reset)

/-- R345, R342: the phase changes only from CONFIG to RUNNING, from CONFIG or RUNNING to DONE by STEP or RUN (one STEP in
CONFIG may begin and end a run), from any other phase to FATAL, and by RESET to CONFIG. -/
def Obligations.PhaseChangesOnlyAsTheRulesAllow : Prop :=
  ∀ (i : Instr) (s t : State), exec i s = .next t →
    t.phase = s.phase ∨ (i = .reset ∧ t.phase = .config) ∨ (s.phase ≠ .fatal ∧ t.phase = .fatal) ∨
      ((i = .step ∨ i = .run) ∧ ((s.phase = .config ∧ t.phase = .running) ∨
        ((s.phase = .config ∨ s.phase = .running) ∧ t.phase = .done)))

/-! ## Bank layout -/

/-- R155, by the inverse map: the scan builds, letter by letter, the table that the index rules R147 to R149, R150, R151
and R153 describe, with R152's variant, for every valid bank text and every site text that R141 admits. -/
def Obligations.BuildFollowsIndexRules : Prop :=
  ∀ (spad : Bool) (st : List Byte) (site : Nat) (banks : List BankLetter), spellsSite st site → banks.Nodup →
    wholeTextOk banks →
    buildDefinition spad (definitionText st banks) =
      .ok { site := BitVec.ofNat 8 site, table := specTable spad site banks, variant := specVariant banks }

/-- R154: the table length, and its range on a valid definition. -/
def Obligations.TableLengthFormula : Prop :=
  ∀ (spad : Bool) (siteText : List Byte) (banks : List BankLetter) (b : BuiltTable), (0x3D : Byte) ∉ siteText →
    buildDefinition spad (siteText ++ 0x3D :: bankText banks) = .ok b →
    b.table.length = specLength banks ∧ 1 ≤ b.table.length ∧ b.table.length ≤ 41

/-- R140 to R145: which fault a definition raises, in the order of the checks. -/
def Obligations.DefinitionFaultsInOrder : Prop :=
  ∀ (spad : Bool),
    (∀ d : List Byte, (0x3D : Byte) ∉ d → buildDefinition spad d = .error .cfgMalformed) ∧
    (∀ st rest : List Byte, (0x3D : Byte) ∉ st → (st = [] ∨ ∃ b ∈ st, b.toNat < 0x30 ∨ 0x39 < b.toNat) →
      buildDefinition spad (st ++ 0x3D :: rest) = .error .cfgMalformed) ∧
    (∀ st rest : List Byte, st ≠ [] → (∀ b ∈ st, 0x30 ≤ b.toNat ∧ b.toNat ≤ 0x39) →
      6 < siteValue st →
      buildDefinition spad (st ++ 0x3D :: rest) = .error .cfgBadSite) ∧
    (∀ (st : List Byte) (site : Nat) (good : List BankLetter) (b : Byte) (rest : List Byte), spellsSite st site →
      good.Nodup → (∀ c, letterByte c ≠ b) →
      buildDefinition spad (definitionText st good ++ b :: rest) = .error .cfgBadChar) ∧
    (∀ (st : List Byte) (site : Nat) (good : List BankLetter) (c : BankLetter) (rest : List Byte), spellsSite st site →
      good.Nodup → c ∈ good →
      buildDefinition spad (definitionText st good ++ letterByte c :: rest) = .error .cfgDupBank) ∧
    (∀ (st : List Byte) (site : Nat) (banks : List BankLetter), spellsSite st site → banks.Nodup → .l ∈ banks →
      .m ∈ banks →
      buildDefinition spad (definitionText st banks) = .error .cfgBothOrient) ∧
    (∀ (st : List Byte) (site : Nat) (banks : List BankLetter), spellsSite st site →
      banks = [] ∨ banks = [.l] ∨ banks = [.m] →
      buildDefinition spad (definitionText st banks) = .error .cfgEmpty) ∧
    (∀ (st : List Byte) (site : Nat) (banks : List BankLetter), spellsSite st site → banks.Nodup →
      ¬(.l ∈ banks ∧ .m ∈ banks) → (.l ∈ banks ∨ .m ∈ banks) → specLength banks ≠ 0 →
      ¬(.A ∈ banks ∧ .B ∈ banks ∧ .C ∈ banks ∧ .D ∈ banks) →
      buildDefinition spad (definitionText st banks) = .error .cfgBsNeedsAbcd)

/-- R157: BUILD on a valid definition writes BUILD_LEN, the tag words and 0 behind them, and nothing else but RESULT; on
any other it raises the definition's fault. -/
def Obligations.BuildFillsBuildBuffer : Prop :=
  ∀ (n : Byte) (text : List Byte) (s : State), s.phase ≠ .fatal → text.length = n.toNat →
    (∀ b, buildDefinition (spadMon s.config) text = .ok b →
      ∃ tags : Vector Word 41, (∀ i (h : i < 41), tags[i] = ((b.table.map tagWord)[i]?).getD 0) ∧
        exec (.build n text) s = .next (answered (BitVec.ofNat 64 b.table.length)
          { s with buildLen := BitVec.ofNat 64 b.table.length, buildTag := tags })) ∧
    (∀ code, buildDefinition (spadMon s.config) text = .error code →
      exec (.build n text) s = .next (faulted code s))

/-- R158: ADD_MODULE on a valid definition appends the module at the next free byte offset, its dynamic part 0, and
answers its index; it reads CONFIG.SPAD_MON now. -/
def Obligations.AddModuleAppendsModule : Prop :=
  ∀ (n : Byte) (text : List Byte) (s : State) (b : BuiltTable), s.phase = .config → text.length = n.toNat →
    s.modules.length ≠ 256 → buildDefinition (s.config.getLsbD 1) text = .ok b →
    exec (.addModule n text) s = .next (answered (BitVec.ofNat 64 s.modules.length)
      { s with modules := s.modules ++ [
        { site := b.site, offset := BitVec.ofNat 64 (4 * frameWords s), variant := b.variant, table := b.table,
          lastCounter := 0, spad := Vector.replicate 7 0, bsPrimed := false, bsSeq := 0, bsAux0 := 0, bsAux1 := 0,
          bsErr := 0, lastErrs := 0 }] })

/-- R158: ADD_MODULE's faults in their order: 256 modules before the definition's own. -/
def Obligations.AddModuleFaultsInOrder : Prop :=
  ∀ (n : Byte) (text : List Byte) (s : State), s.phase = .config → text.length = n.toNat →
    (s.modules.length = 256 → exec (.addModule n text) s = .next (faulted .cfgTooManyModules s)) ∧
    (∀ code, s.modules.length ≠ 256 → buildDefinition (spadMon s.config) text = .error code →
      exec (.addModule n text) s = .next (faulted code s))

/-- R146 to R149: what a channel letter contributes to the table being built: four IDs at the end of the lower half and
four at the front of the upper half. Running a letter by itself is the model's choice: log entry 4. -/
def Obligations.ChannelLettersContribute : Prop :=
  ∀ (i : Instr) (c : BankLetter) (s : State),
    (i, c) ∈ [(.bankA, .A), (.bankB, .B), (.bankC, .C), (.bankD, .D)] → s.phase ≠ .fatal → c ∉ s.layout.banks →
    ∀ k, k = (channelLetters s.layout.banks).length →
    exec i s = .next { s with layout := { s.layout with
      banks := s.layout.banks ++ [c]
      lower := s.layout.lower ++ [0, 1, 2, 3].map (fun w => .id ((s.layout.site <<< 5) ||| BitVec.ofNat 8 (8 * k + w)))
      upper := [4, 5, 6, 7].map (fun w => Tag.id ((s.layout.site <<< 5) ||| BitVec.ofNat 8 (8 * k + w))) ++
        s.layout.upper } }

/-- R150 to R153: what S, P, l and m contribute: entries behind the ABCD block, or none. Running a letter by itself is
the model's choice: log entry 4. -/
def Obligations.OtherLettersContribute : Prop :=
  ∀ (i : Instr) (c : BankLetter) (s : State),
    (i, c) ∈ [(.bankS, .S), (.bankP, .P), (.bankL, .l), (.bankM, .m)] → s.phase ≠ .fatal → c ∉ s.layout.banks →
    exec i s = .next { s with layout := { s.layout with
      banks := s.layout.banks ++ [c]
      tail := s.layout.tail ++ tailTags (s.config.getLsbD 1) c } }

/-- R143: a letter that has appeared already raises CFG_DUP_BANK. That the bank-layout unit is then at rest is the model's
choice: log entry 4. -/
def Obligations.RepeatedLetterIsFatal : Prop :=
  ∀ (i : Instr) (c : BankLetter) (s : State),
    (i, c) ∈ [(.bankA, .A), (.bankB, .B), (.bankC, .C), (.bankD, .D), (.bankS, .S), (.bankP, .P), (.bankL, .l),
      (.bankM, .m)] → s.phase ≠ .fatal → c ∈ s.layout.banks →
    exec i s = .next (faulted .cfgDupBank { s with layout := Layout.idle })

/-- The letters run one by one, a step of the machine each, build what ADD_MODULE and BUILD build at once. The single
execution is the model's choice (log entry 4); this says that it has the same meaning. -/
def Obligations.LettersOneByOneBuildTheSameTable : Prop :=
  ∀ (s : State) (site : Byte) (text : List Byte) (lay : Layout), s.phase ≠ .fatal →
    s.layout = { Layout.idle with site := site, text := text } →
    scanBanks (spadMon s.config) text { Layout.idle with site := site } = .ok lay →
    Sys2Proof.core.run text.length s = .next { s with layout := lay }

/-! ## Validator -/

/-- R183, R184, R195: a slice that begins with four ES_MAGIC words is ok whatever else it holds; nothing but LAST_ERRS
of the module's registers is written. -/
def Obligations.EventSignatureSkipsSlice : Prop :=
  ∀ (m : Byte) (f : List Word) (s : State) (x : Module) (slice : List Word), s.phase = .config →
    f.length = frameWords s → s.modules[m.toNat]? = some x →
    frameSlice f (x.offset.toNat / 4) x.table.length = some slice → signature s.params.esMagic slice →
    exec (.validate m f) s = .next (answered 0x300000000
      { s with
        frame := f
        modules := s.modules.set m.toNat { x with lastErrs := 0 }
        diag := s.diag ++ [.esSkip m.toNat] })

/-- R181, R190, R191, R180: VALIDATE counts the failing words of the slice, answers with the count and ok, adds it to
ERR_TOTAL and keeps it in LAST_ERRS; it writes no other module and, besides DIAG and BS_ERR_TOTAL, no other register. -/
def Obligations.ValidateCountsFailingWords : Prop :=
  ∀ (m : Byte) (f : List Word) (s : State) (x : Module) (slice : List Word), ReachesWords s m f x slice →
    ∃ t y, exec (.validate m f) s = .next t ∧
      t = answered ((errorCount s.config x slice).zeroExtend 64 |||
            (if errorCount s.config x slice = 0 then 0x100000000 else 0))
          { s with
            frame := f
            modules := s.modules.set m.toNat y
            errTotal := s.errTotal + (errorCount s.config x slice).zeroExtend 64
            bsErrTotal := t.bsErrTotal
            diag := t.diag } ∧
      y.lastErrs = errorCount s.config x slice ∧
      y.site = x.site ∧ y.offset = x.offset ∧ y.variant = x.variant ∧ y.table = x.table

/-- R187, R188, R192: VALIDATE's effect on the continuity state. LAST_COUNTER moves only on a pass, whatever the other
words do; each Scratchpad slot takes its word, always; without a word a register keeps its value; and the bitslice
history moves only for a bitslice module whose words all passed. -/
def Obligations.ValidateUpdatesContinuityState : Prop :=
  ∀ (m : Byte) (f : List Word) (s : State) (x : Module) (slice : List Word), ReachesWords s m f x slice →
    ∃ t y, exec (.validate m f) s = .next t ∧ t.modules[m.toNat]? = some y ∧
      (∀ v, (Tag.sampleCounter, v) ∈ x.table.zip slice →
        y.lastCounter = if v = x.lastCounter + 1 then v else x.lastCounter) ∧
      (Tag.sampleCounter ∉ x.table → y.lastCounter = x.lastCounter) ∧
      (∀ (j : Fin 7) v, (Tag.scratchpad j, v) ∈ x.table.zip slice → y.spad[j] = v) ∧
      (∀ j : Fin 7, Tag.scratchpad j ∉ x.table → y.spad[j] = x.spad[j]) ∧
      ((x.variant = .standard ∨ errorCount s.config x slice ≠ 0) →
        t.bsErrTotal = s.bsErrTotal ∧ y.bsPrimed = x.bsPrimed ∧ y.bsSeq = x.bsSeq ∧ y.bsAux0 = x.bsAux0 ∧
          y.bsAux1 = x.bsAux1 ∧ y.bsErr = x.bsErr)

/-- R193, R194, R353: a module's events, whatever its variant: with VERBOSE one Word event for every word in index order,
the tag, the observed word and the verdict in their own fields; then one SpadChange for every changed slot in increasing
order, VERBOSE or not. Nothing follows them for a Standard module or where a word failed; what follows otherwise is said in
BitsliceFrameIsDecodedAndChecked. -/
def Obligations.ValidateEmitsWordAndSpadEvents : Prop :=
  ∀ (m : Byte) (f : List Word) (s : State) (x : Module) (slice : List Word), ReachesWords s m f x slice →
    ∃ t rest, exec (.validate m f) s = .next t ∧
      t.diag = s.diag ++ wordEvents s.config m.toNat x slice ++ spadEvents m.toNat x slice ++ rest ∧
      (x.variant = .standard ∨ errorCount s.config x slice ≠ 0 → rest = [])

/-- R109, R189: an ID word matches iff its masked bits equal the tag's, which is CHANNEL alone under NO_SITE_ID and the
whole low byte otherwise; no other bit of the word matters, and nothing is written but the count. -/
def Obligations.MaskedIdentityCompare : Prop :=
  ∀ (config : DWord) (t : Byte) (v : Word) (a : WordLoop),
    wordPolicy (idMask config) (.id t) v a =
      (if (if config.getLsbD 0 then v.extractLsb' 0 5 = t.extractLsb' 0 5 else v.extractLsb' 0 8 = t) then a
      else { a with ec := a.ec + 1 })

/-- R40, R79: no instruction but RESET changes a registered module's static part, or removes a module; only ADD_MODULE
adds one. -/
def Obligations.ModuleStaticPartIsFixed : Prop :=
  ∀ (i : Instr) (s t : State), i ≠ .reset → exec i s = .next t →
    (∀ (m : Nat) (x : Module), s.modules[m]? = some x →
      ∃ y, t.modules[m]? = some y ∧ y.site = x.site ∧ y.offset = x.offset ∧ y.variant = x.variant ∧
        y.table = x.table) ∧
    ((∀ n text, i ≠ .addModule n text) → t.modules.length = s.modules.length)

/-! ## Bitslice -/

/-- R230: each lane gives exactly one bit of the result, in either order. -/
def Obligations.CollectGathersOneBitPerLane : Prop :=
  ∀ (lanes : List Word) (b : Nat), lanes.length = 32 →
    ∀ k (h : k < lanes.length),
      (collect lanes b .lsb).getLsbD k = lanes[k].getLsbD b ∧
      (collect lanes b .msb).getLsbD (31 - k) = lanes[k].getLsbD b

/-- R231: COLLECT on 32 lanes answers with the gather, in CONFIG, RUNNING and DONE, and changes nothing else. -/
def Obligations.CollectAnswersTheGather : Prop :=
  ∀ (bit : BitVec 5) (o : Orient) (lanes : List Word) (s : State), s.phase ≠ .fatal → lanes.length = 32 →
    exec (.collect bit o lanes) s = .next (answered ((collect lanes bit.toNat o).zeroExtend 64) s)

/-- R233 to R239: a bitslice module whose words all pass is decoded. The history takes the decoded values, violation or
not; a violation is counted in BS_ERR and BS_ERR_TOTAL only after the first decoded frame and only in enforced mode; the
frame stays ok; and the events are the Word and SpadChange events (R193, R194), then those of R233 that are due, in its
order, and no others. -/
def Obligations.BitsliceFrameIsDecodedAndChecked : Prop :=
  ∀ (m : Byte) (f : List Word) (s : State) (x : Module) (slice : List Word), ReachesWords s m f x slice →
    x.variant ≠ .standard → errorCount s.config x slice = 0 →
    ∀ (o : Orient) (seq aux0 aux1 : Word) (viol : Bool),
      (o = if x.variant = .bitsliceLsb then .lsb else .msb) →
      (seq = collect (slice.take 32) (match s.params.bsSeqPlane with | .p5 => 5 | .p6 => 6 | .p7 => 7) o) →
      (aux0 = collect (slice.take 32) (match s.params.bsSeqPlane with | .p5 => 6 | .p6 => 5 | .p7 => 5) o) →
      (aux1 = collect (slice.take 32) (match s.params.bsSeqPlane with | .p5 => 7 | .p6 => 7 | .p7 => 6) o) →
      (viol = decide (x.bsPrimed = true ∧ s.config.getLsbD 2 = false ∧ seq ≠ x.bsSeq + 1)) →
    ∃ t y, exec (.validate m f) s = .next t ∧ t.modules[m.toNat]? = some y ∧
      t.result = 0x100000000 ∧ t.errTotal = s.errTotal ∧
      y.bsPrimed = true ∧ y.bsSeq = seq ∧ y.bsAux0 = aux0 ∧ y.bsAux1 = aux1 ∧
      y.bsErr = (if viol then x.bsErr + 1 else x.bsErr) ∧
      t.bsErrTotal = (if viol then s.bsErrTotal + 1 else s.bsErrTotal) ∧
      t.diag = s.diag ++ wordEvents s.config m.toNat x slice ++ spadEvents m.toNat x slice ++
        (if viol then [.bsDiscontinuity m.toNat x.bsSeq seq] else []) ++
        (if x.bsPrimed = true ∧ aux0 ≠ x.bsAux0 then [.bsAuxChange m.toNat 0 x.bsAux0 aux0] else []) ++
        (if x.bsPrimed = true ∧ aux1 ≠ x.bsAux1 then [.bsAuxChange m.toNat 1 x.bsAux1 aux1] else []) ++
        (if s.config.getLsbD 2 then [.bsCapture m.toNat seq aux0 aux1] else [])

/-! ## Composer -/

/-- R71: StreamRead(n). A read that READ_ERROR does not name returns the bytes IN[POS .. POS+k-1], k = min(n, len - POS),
and moves POS by k; one that it names is a ReadError and moves nothing. A whole read needs only that the stream holds n
bytes past POS. That READ_ERROR is a list of ordinals, that an endless stream is its bytes and a cycle, and that a stalled
read is one that waits, are the model's choice: log entries 7, 9 and 10. -/
def Obligations.StreamReadGivesTheNextBytes : Prop :=
  ∀ (n : Nat) (st : InputStream),
    (st.reads ∈ st.failing → streamRead n st = .error { st with reads := st.reads + 1 }) ∧
    (st.reads ∉ st.failing →
      (st.tail = .ended ∨ st.pos + n ≤ st.data.length →
        streamRead n st = .bytes ((st.data.drop st.pos).take n)
          { st with pos := st.pos + min n (st.data.length - st.pos), reads := st.reads + 1 }) ∧
      (st.tail = .stalls → 0 < n → st.data.length < st.pos + n → streamRead n st = .waits) ∧
      (∀ cycle, st.tail = .repeats cycle → cycle ≠ [] →
        ∃ b, streamRead n st = .bytes b { st with pos := st.pos + n, reads := st.reads + 1 } ∧ b.length = n ∧
          ∀ k, k < n → b[k]? =
            if st.pos + k < st.data.length then st.data[st.pos + k]?
            else cycle[(st.pos + k - st.data.length) % cycle.length]?))

/-- R263, R273, R341: a short read ends the run END_OF_STREAM: no byte is decoded, forwarded or counted, and the command,
STEP or RUN, is answered with STATUS. -/
def Obligations.ShortReadEndsTheRun : Prop :=
  ∀ (i : Instr) (s : State) (b : List Byte) (st : InputStream), i = .step ∨ i = .run → canStep s →
    streamRead (frameBytes s) s.input = .bytes b st → b.length < frameBytes s →
    ∃ t, exec i s = .next t ∧
      t = answered (statusWord t)
        { s with phase := .done, outcome := .endOfStream, input := st,
                 diag := s.diag ++ [.summary .endOfStream s.errTotal s.frameCount] }

/-- R262, R265 to R268, R271: a frame of which every module's validation is ok is accepted: forwarded byte for byte if a
sink is attached, counted, and followed by the progress event when it is due and by the ceiling test; each module holds what its own
validation left, BS_ERR_TOTAL grows by the violations of all of them, and their events come in order. RUN does the same, its command unanswered while the run goes on (R272; log entry 6). -/
def Obligations.GoodFrameIsAccepted : Prop :=
  ∀ (s : State) (b : List Byte) (st : InputStream), canStep s →
    streamRead (frameBytes s) s.input = .bytes b st → b.length = frameBytes s →
    (∀ m x, s.modules[m]? = some x → ∃ v, moduleResult s (decodeFrame b) m x = some v ∧ v.verdict.ok = true) →
    ∃ t, exec .step s = .next t ∧
      exec .run s = .next (if t.phase = .running then { t with responses := s.responses, queue := s.queue } else t) ∧
      t.frameCount = s.frameCount + 1 ∧ t.byteCount = s.byteCount + BitVec.ofNat 64 (frameBytes s) ∧
      t.sink = (if s.params.sinkPresent then s.sink ++ b else s.sink) ∧
      (t.phase, t.outcome) =
        (if s.config.getLsbD 4 = true ∧ s.ceiling.toNat < (s.frameCount + 1).toNat then (.done, .completed)
        else (.running, s.outcome)) ∧
      t.frame = decodeFrame b ∧ t.input = st ∧ t.errTotal = s.errTotal ∧
      t.bsErrTotal = s.bsErrTotal + BitVec.ofNat 64 (violationsOfFirst s (decodeFrame b) s.modules.length) ∧
      t.diag = s.diag ++ eventsOfFirst s (decodeFrame b) s.modules.length ++
        (if s.params.progressPeriod ≠ 0 ∧ t.frameCount.toNat % s.params.progressPeriod = 0 then
          [.progress t.frameCount t.byteCount]
        else []) ++
        (if t.phase = .done then [.summary .completed t.errTotal t.frameCount] else []) ∧
      (∀ m x v, s.modules[m]? = some x → moduleResult s (decodeFrame b) m x = some v →
        t.modules[m]? = some v.module) ∧
      t = answered (statusWord t) { t with result := s.result, responses := s.responses, queue := s.queue } ∧
      (t.params, t.fatalCode, t.config, t.ceiling, t.buildLen, t.buildTag, t.layout) =
        (s.params, s.fatalCode, s.config, s.ceiling, s.buildLen, s.buildTag, s.layout) ∧
      (t.corruptFrame, t.corruptModule, t.corruptStreamOffset, t.corruptModuleOffset) =
        (s.corruptFrame, s.corruptModule, s.corruptStreamOffset, s.corruptModuleOffset)

/-- R265, R269, R273: the first module that is not ok ends the run CORRUPT, and the record names the frame, the module and
both offsets; earlier modules keep what their validations left, later ones are untouched, and the frame is neither
forwarded nor counted. BS_ERR_TOTAL grows by the violations of the modules validated, and DIAG by their events in order and
the Summary. -/
def Obligations.FirstBadModuleEndsTheRun : Prop :=
  ∀ (i : Instr) (s : State) (b : List Byte) (st : InputStream) (m : Nat) (x : Module) (v : Validation),
    i = .step ∨ i = .run → canStep s →
    streamRead (frameBytes s) s.input = .bytes b st → b.length = frameBytes s →
    (∀ k y, k < m → s.modules[k]? = some y →
      ∃ w, moduleResult s (decodeFrame b) k y = some w ∧ w.verdict.ok = true) →
    s.modules[m]? = some x → moduleResult s (decodeFrame b) m x = some v → v.verdict.ok = false →
    ∃ t, exec i s = .next t ∧
      t = answered (statusWord t)
        { s with
          phase := .done, outcome := .corrupt
          corruptFrame := s.frameCount + 1, corruptModule := BitVec.ofNat 64 m
          corruptStreamOffset := s.byteCount, corruptModuleOffset := x.offset
          frame := decodeFrame b, input := st
          errTotal := s.errTotal + v.verdict.ec.zeroExtend 64
          bsErrTotal := s.bsErrTotal + BitVec.ofNat 64 (violationsOfFirst s (decodeFrame b) (m + 1))
          modules := t.modules
          diag := s.diag ++ eventsOfFirst s (decodeFrame b) (m + 1) ++
            [.summary .corrupt (s.errTotal + v.verdict.ec.zeroExtend 64) s.frameCount] } ∧
      t.modules[m]? = some v.module ∧
      (∀ k, m < k → t.modules[k]? = s.modules[k]?) ∧
      (∀ k y w, k < m → s.modules[k]? = some y → moduleResult s (decodeFrame b) k y = some w →
        t.modules[k]? = some w.module)

/-- R264: a read that fails raises INPUT_UNREADABLE whenever it happens; nothing already forwarded or counted changes. -/
def Obligations.ReadErrorIsFatal : Prop :=
  ∀ (i : Instr) (s : State) (st : InputStream), i = .step ∨ i = .run → canStep s →
    streamRead (frameBytes s) s.input = .error st →
    exec i s = .next (faulted .inputUnreadable { s with input := st })

/-- R262, R345: a STEP or RUN in CONFIG with no module raises CFG_NO_MODULES and reads nothing. -/
def Obligations.NoModulesIsFatal : Prop :=
  ∀ (i : Instr) (s : State), i = .step ∨ i = .run → s.phase = .config → s.modules = [] →
    exec i s = .next (faulted .cfgNoModules s)

/-- R272: RUN is STEP repeated. Where STEP leaves PHASE in RUNNING, one step of RUN does the same but gives no response and
stays at the port; where STEP leaves any other phase, RUN does exactly what STEP does. That a machine step of RUN is one
STEP is the model's choice: log entry 6. -/
def Obligations.RunIsRepeatedStep : Prop :=
  ∀ (s t : State), s.phase = .config ∨ s.phase = .running → exec .step s = .next t →
    (t.phase = .running → exec .run s = .next { t with responses := s.responses, queue := s.queue }) ∧
    (t.phase ≠ .running → exec .run s = .next t)

/-- R378, R71: on a stream that neither ends nor supplies a whole frame, STEP and RUN never complete, in however many steps
of the machine. That a waiting read is a machine step that changes nothing is the model's choice: log entry 7. -/
def Obligations.StalledReadNeverCompletes : Prop :=
  ∀ (s : State) (cw : Word) (q : List HostItem) (n : Nat), s.layout.text = [] → s.queue = .command cw .none :: q →
    cw = 0x70000000 ∨ cw = 0x80000000 → canStep s → s.input.tail = .stalls → s.input.reads ∉ s.input.failing →
    0 < frameBytes s → s.input.data.length < s.input.pos + frameBytes s → Sys2Proof.core.run n s = .next s

/-- R72, R73: a STEP that reads a whole frame fills F with its words, least significant byte first. -/
def Obligations.StepFillsFrameBuffer : Prop :=
  ∀ (s t : State) (b : List Byte) (st : InputStream), canStep s →
    streamRead (frameBytes s) s.input = .bytes b st → b.length = frameBytes s → exec .step s = .next t →
    t.frame.length = frameWords s ∧
    ∀ i, i < frameWords s → ∃ b0 b1 b2 b3 : Byte, b[4 * i]? = some b0 ∧ b[4 * i + 1]? = some b1 ∧
      b[4 * i + 2]? = some b2 ∧ b[4 * i + 3]? = some b3 ∧
      (t.frame[i]?).map BitVec.toNat =
        some (b0.toNat + 2 ^ 8 * b1.toNat + 2 ^ 16 * b2.toNat + 2 ^ 24 * b3.toNat)

/-- R71, R50: no instruction moves the read position backwards, only STEP and RUN read, and a read takes at most one
frame. That POS is a number without a width is the model's: log entry 8. -/
def Obligations.ReadPositionOnlyAdvances : Prop :=
  ∀ (i : Instr) (s t : State), exec i s = .next t →
    s.input.pos ≤ t.input.pos ∧ t.input.pos ≤ s.input.pos + frameBytes s ∧
    (i ≠ .step → i ≠ .run → t.input = s.input)

/-- R50, R76: in phase RUNNING the read position equals BYTE_COUNT: every instruction but RESET keeps it so, and so does the
start of a run. A binding taken in the middle of a run does not; that there is one is the model's choice: log entry 2. -/
def Obligations.ReadPositionEqualsByteCount : Prop :=
  ∀ (i : Instr) (s t : State), i ≠ .reset → exec i s = .next t →
    (s.phase = .config ∨ s.phase = .running → BitVec.ofNat 64 s.input.pos = s.byteCount) →
    t.phase = .config ∨ t.phase = .running → BitVec.ofNat 64 t.input.pos = t.byteCount

/-! ## Who writes what -/

/-- R52: the writers of every register. A register an instruction is not named for keeps its value. Two clauses are the
model's and not R52's, which names neither the bank-layout unit nor a letter: that every instruction but a letter keeps the
bank-layout unit, and that a letter keeps RESULT (log entry 4, DESIGN CHOICE). -/
def Obligations.OnlyTheNamedCommandsWrite : Prop :=
  ∀ (i : Instr) (s t : State), exec i s = .next t → i ≠ .reset →
    ((∀ flags, i ≠ .setConfig flags) → t.config = s.config) ∧
    ((∀ p, i ≠ .setCeiling p) → t.ceiling = s.ceiling) ∧
    ((∀ n d, i ≠ .build n d) → t.buildLen = s.buildLen ∧ t.buildTag = s.buildTag) ∧
    ((i ≠ .step ∧ i ≠ .run) → t.frameCount = s.frameCount ∧ t.byteCount = s.byteCount ∧ t.outcome = s.outcome ∧
      t.corruptFrame = s.corruptFrame ∧ t.corruptModule = s.corruptModule ∧
      t.corruptStreamOffset = s.corruptStreamOffset ∧ t.corruptModuleOffset = s.corruptModuleOffset ∧
      t.sink = s.sink) ∧
    (validates i = false → t.errTotal = s.errTotal ∧ t.bsErrTotal = s.bsErrTotal ∧ t.frame = s.frame ∧
      ∀ (m : Nat) (x : Module), s.modules[m]? = some x → t.modules[m]? = some x) ∧
    (isLetter i = false → t.layout = s.layout) ∧
    ((∃ reg m, i = .readReg reg m) ∨ isLetter i = true ∨ t.phase = .fatal → t.result = s.result)

/-- R48, R74, R54, R371: the sink, DIAG and the responses are only ever appended to, by any step of the machine, RESET
included, and no step changes a parameter. Keeping what has left the block in the state is the model's: log entry 13. -/
def Obligations.PortsOnlyAppend : Prop :=
  ∀ s t : State, step s = .next t →
    s.sink <+: t.sink ∧ s.diag <+: t.diag ∧ s.responses <+: t.responses ∧ t.params = s.params ∧
    (s.params.sinkPresent = false → t.sink = s.sink)

/-- R48, R352: no result depends on DIAG. A step from a state with another diagnostic stream gives the same next state and
appends the same events. -/
def Obligations.DiagnosticsAreNeverRead : Prop :=
  ∀ (s t : State) (d : List DiagEvent), step s = .next t →
    ∃ e, t.diag = s.diag ++ e ∧ step { s with diag := d } = .next { t with diag := d ++ e }

/-! ## The invariant -/

/-- Every step keeps the invariant of the registers (Safety.lean), from every state that has it. -/
def Obligations.StepKeepsInvariant : Prop :=
  ∀ s t : State, Inv s → step s = .next t → Inv t

/-- The state after reset has the invariant. -/
def Obligations.ResetMeetsInvariant : Prop := Inv State.reset

/-- From every state that has the invariant, the next step answers a next state: no fault and no refusal of the model (log
entry 16) is ever met. -/
def Obligations.InvariantRulesOutStops : Prop :=
  ∀ s : State, Inv s → Answers (step s)
end

