-- ==== Sys2Proof/Laws/Bitslice.lean ====
section
/-! SUPPORT. What the bitslice step leaves of a module's register set, a lemma a field. -/

namespace Sys2Proof.Machine

variable (p : Params) (config : DWord) (m : Nat) (x : Module) (lanes : List Word)

/-- Everything BitsliceStep does to the register set (R233, R238): the three decoded values, BS_PRIMED, and BS_ERR. -/
theorem bitsliceStep_module :
    (bitsliceStep p config m x lanes).module =
      { x with
        bsErr := if (bitsliceStep p config m x lanes).violation then x.bsErr + 1 else x.bsErr
        bsSeq := collect lanes (seqPlane p.bsSeqPlane) (variantOrient x.variant)
        bsAux0 := collect lanes (aux0Plane p.bsSeqPlane) (variantOrient x.variant)
        bsAux1 := collect lanes (aux1Plane p.bsSeqPlane) (variantOrient x.variant)
        bsPrimed := true } := rfl

@[simp] theorem bitsliceStep_site : (bitsliceStep p config m x lanes).module.site = x.site := rfl
@[simp] theorem bitsliceStep_offset : (bitsliceStep p config m x lanes).module.offset = x.offset := rfl
@[simp] theorem bitsliceStep_variant : (bitsliceStep p config m x lanes).module.variant = x.variant := rfl
@[simp] theorem bitsliceStep_table : (bitsliceStep p config m x lanes).module.table = x.table := rfl
@[simp] theorem bitsliceStep_lastCounter :
    (bitsliceStep p config m x lanes).module.lastCounter = x.lastCounter := rfl
@[simp] theorem bitsliceStep_spad : (bitsliceStep p config m x lanes).module.spad = x.spad := rfl
@[simp] theorem bitsliceStep_lastErrs : (bitsliceStep p config m x lanes).module.lastErrs = x.lastErrs := rfl
@[simp] theorem bitsliceStep_bsPrimed : (bitsliceStep p config m x lanes).module.bsPrimed = true := rfl

/-- The violation flag, by R234 to R236. -/
theorem bitsliceStep_violation :
    (bitsliceStep p config m x lanes).violation =
      bsViolation config x (collect lanes (seqPlane p.bsSeqPlane) (variantOrient x.variant)) := rfl

end Sys2Proof.Machine
end

