-- ==== Sys2Proof/Laws/State.lean ====
section
/-! SUPPORT. One lemma per field per named update of the state, each true by unfolding the update once, so that no later
proof unfolds a record update. -/

namespace Sys2Proof.Machine

/-! ### State.respond -/

@[simp] theorem State.respond_params (r : Response) (s : State) :
    (s.respond r).params = s.params := rfl

@[simp] theorem State.respond_phase (r : Response) (s : State) :
    (s.respond r).phase = s.phase := rfl

@[simp] theorem State.respond_outcome (r : Response) (s : State) :
    (s.respond r).outcome = s.outcome := rfl

@[simp] theorem State.respond_fatalCode (r : Response) (s : State) :
    (s.respond r).fatalCode = s.fatalCode := rfl

@[simp] theorem State.respond_config (r : Response) (s : State) :
    (s.respond r).config = s.config := rfl

@[simp] theorem State.respond_ceiling (r : Response) (s : State) :
    (s.respond r).ceiling = s.ceiling := rfl

@[simp] theorem State.respond_frameCount (r : Response) (s : State) :
    (s.respond r).frameCount = s.frameCount := rfl

@[simp] theorem State.respond_byteCount (r : Response) (s : State) :
    (s.respond r).byteCount = s.byteCount := rfl

@[simp] theorem State.respond_errTotal (r : Response) (s : State) :
    (s.respond r).errTotal = s.errTotal := rfl

@[simp] theorem State.respond_bsErrTotal (r : Response) (s : State) :
    (s.respond r).bsErrTotal = s.bsErrTotal := rfl

@[simp] theorem State.respond_corruptFrame (r : Response) (s : State) :
    (s.respond r).corruptFrame = s.corruptFrame := rfl

@[simp] theorem State.respond_corruptModule (r : Response) (s : State) :
    (s.respond r).corruptModule = s.corruptModule := rfl

@[simp] theorem State.respond_corruptStreamOffset (r : Response) (s : State) :
    (s.respond r).corruptStreamOffset = s.corruptStreamOffset := rfl

@[simp] theorem State.respond_corruptModuleOffset (r : Response) (s : State) :
    (s.respond r).corruptModuleOffset = s.corruptModuleOffset := rfl

@[simp] theorem State.respond_result (r : Response) (s : State) :
    (s.respond r).result = s.result := rfl

@[simp] theorem State.respond_buildLen (r : Response) (s : State) :
    (s.respond r).buildLen = s.buildLen := rfl

@[simp] theorem State.respond_buildTag (r : Response) (s : State) :
    (s.respond r).buildTag = s.buildTag := rfl

@[simp] theorem State.respond_modules (r : Response) (s : State) :
    (s.respond r).modules = s.modules := rfl

@[simp] theorem State.respond_frame (r : Response) (s : State) :
    (s.respond r).frame = s.frame := rfl

@[simp] theorem State.respond_layout (r : Response) (s : State) :
    (s.respond r).layout = s.layout := rfl

@[simp] theorem State.respond_queue (r : Response) (s : State) :
    (s.respond r).queue = s.queue.drop 1 := rfl

@[simp] theorem State.respond_input (r : Response) (s : State) :
    (s.respond r).input = s.input := rfl

@[simp] theorem State.respond_sink (r : Response) (s : State) :
    (s.respond r).sink = s.sink := rfl

@[simp] theorem State.respond_diag (r : Response) (s : State) :
    (s.respond r).diag = s.diag := rfl

@[simp] theorem State.respond_responses (r : Response) (s : State) :
    (s.respond r).responses = s.responses ++ [r] := rfl

/-! ### State.emit -/

@[simp] theorem State.emit_params (es : List DiagEvent) (s : State) :
    (s.emit es).params = s.params := rfl

@[simp] theorem State.emit_phase (es : List DiagEvent) (s : State) :
    (s.emit es).phase = s.phase := rfl

@[simp] theorem State.emit_outcome (es : List DiagEvent) (s : State) :
    (s.emit es).outcome = s.outcome := rfl

@[simp] theorem State.emit_fatalCode (es : List DiagEvent) (s : State) :
    (s.emit es).fatalCode = s.fatalCode := rfl

@[simp] theorem State.emit_config (es : List DiagEvent) (s : State) :
    (s.emit es).config = s.config := rfl

@[simp] theorem State.emit_ceiling (es : List DiagEvent) (s : State) :
    (s.emit es).ceiling = s.ceiling := rfl

@[simp] theorem State.emit_frameCount (es : List DiagEvent) (s : State) :
    (s.emit es).frameCount = s.frameCount := rfl

@[simp] theorem State.emit_byteCount (es : List DiagEvent) (s : State) :
    (s.emit es).byteCount = s.byteCount := rfl

@[simp] theorem State.emit_errTotal (es : List DiagEvent) (s : State) :
    (s.emit es).errTotal = s.errTotal := rfl

@[simp] theorem State.emit_bsErrTotal (es : List DiagEvent) (s : State) :
    (s.emit es).bsErrTotal = s.bsErrTotal := rfl

@[simp] theorem State.emit_corruptFrame (es : List DiagEvent) (s : State) :
    (s.emit es).corruptFrame = s.corruptFrame := rfl

@[simp] theorem State.emit_corruptModule (es : List DiagEvent) (s : State) :
    (s.emit es).corruptModule = s.corruptModule := rfl

@[simp] theorem State.emit_corruptStreamOffset (es : List DiagEvent) (s : State) :
    (s.emit es).corruptStreamOffset = s.corruptStreamOffset := rfl

@[simp] theorem State.emit_corruptModuleOffset (es : List DiagEvent) (s : State) :
    (s.emit es).corruptModuleOffset = s.corruptModuleOffset := rfl

@[simp] theorem State.emit_result (es : List DiagEvent) (s : State) :
    (s.emit es).result = s.result := rfl

@[simp] theorem State.emit_buildLen (es : List DiagEvent) (s : State) :
    (s.emit es).buildLen = s.buildLen := rfl

@[simp] theorem State.emit_buildTag (es : List DiagEvent) (s : State) :
    (s.emit es).buildTag = s.buildTag := rfl

@[simp] theorem State.emit_modules (es : List DiagEvent) (s : State) :
    (s.emit es).modules = s.modules := rfl

@[simp] theorem State.emit_frame (es : List DiagEvent) (s : State) :
    (s.emit es).frame = s.frame := rfl

@[simp] theorem State.emit_layout (es : List DiagEvent) (s : State) :
    (s.emit es).layout = s.layout := rfl

@[simp] theorem State.emit_queue (es : List DiagEvent) (s : State) :
    (s.emit es).queue = s.queue := rfl

@[simp] theorem State.emit_input (es : List DiagEvent) (s : State) :
    (s.emit es).input = s.input := rfl

@[simp] theorem State.emit_sink (es : List DiagEvent) (s : State) :
    (s.emit es).sink = s.sink := rfl

@[simp] theorem State.emit_diag (es : List DiagEvent) (s : State) :
    (s.emit es).diag = s.diag ++ es := rfl

@[simp] theorem State.emit_responses (es : List DiagEvent) (s : State) :
    (s.emit es).responses = s.responses := rfl

/-! ### State.raise -/

@[simp] theorem State.raise_params (c : FatalCode) (s : State) :
    (s.raise c).params = s.params := rfl

@[simp] theorem State.raise_phase (c : FatalCode) (s : State) :
    (s.raise c).phase = .fatal := rfl

@[simp] theorem State.raise_outcome (c : FatalCode) (s : State) :
    (s.raise c).outcome = s.outcome := rfl

@[simp] theorem State.raise_fatalCode (c : FatalCode) (s : State) :
    (s.raise c).fatalCode = if s.fatalCode = .noFault then c else s.fatalCode := rfl

@[simp] theorem State.raise_config (c : FatalCode) (s : State) :
    (s.raise c).config = s.config := rfl

@[simp] theorem State.raise_ceiling (c : FatalCode) (s : State) :
    (s.raise c).ceiling = s.ceiling := rfl

@[simp] theorem State.raise_frameCount (c : FatalCode) (s : State) :
    (s.raise c).frameCount = s.frameCount := rfl

@[simp] theorem State.raise_byteCount (c : FatalCode) (s : State) :
    (s.raise c).byteCount = s.byteCount := rfl

@[simp] theorem State.raise_errTotal (c : FatalCode) (s : State) :
    (s.raise c).errTotal = s.errTotal := rfl

@[simp] theorem State.raise_bsErrTotal (c : FatalCode) (s : State) :
    (s.raise c).bsErrTotal = s.bsErrTotal := rfl

@[simp] theorem State.raise_corruptFrame (c : FatalCode) (s : State) :
    (s.raise c).corruptFrame = s.corruptFrame := rfl

@[simp] theorem State.raise_corruptModule (c : FatalCode) (s : State) :
    (s.raise c).corruptModule = s.corruptModule := rfl

@[simp] theorem State.raise_corruptStreamOffset (c : FatalCode) (s : State) :
    (s.raise c).corruptStreamOffset = s.corruptStreamOffset := rfl

@[simp] theorem State.raise_corruptModuleOffset (c : FatalCode) (s : State) :
    (s.raise c).corruptModuleOffset = s.corruptModuleOffset := rfl

@[simp] theorem State.raise_result (c : FatalCode) (s : State) :
    (s.raise c).result = s.result := rfl

@[simp] theorem State.raise_buildLen (c : FatalCode) (s : State) :
    (s.raise c).buildLen = s.buildLen := rfl

@[simp] theorem State.raise_buildTag (c : FatalCode) (s : State) :
    (s.raise c).buildTag = s.buildTag := rfl

@[simp] theorem State.raise_modules (c : FatalCode) (s : State) :
    (s.raise c).modules = s.modules := rfl

@[simp] theorem State.raise_frame (c : FatalCode) (s : State) :
    (s.raise c).frame = s.frame := rfl

@[simp] theorem State.raise_layout (c : FatalCode) (s : State) :
    (s.raise c).layout = s.layout := rfl

@[simp] theorem State.raise_queue (c : FatalCode) (s : State) :
    (s.raise c).queue = s.queue.drop 1 := rfl

@[simp] theorem State.raise_input (c : FatalCode) (s : State) :
    (s.raise c).input = s.input := rfl

@[simp] theorem State.raise_sink (c : FatalCode) (s : State) :
    (s.raise c).sink = s.sink := rfl

@[simp] theorem State.raise_diag (c : FatalCode) (s : State) :
    (s.raise c).diag = s.diag ++ [.fatalEvent c] := rfl

@[simp] theorem State.raise_responses (c : FatalCode) (s : State) :
    (s.raise c).responses = s.responses ++ [.fault c] := rfl

/-! ### State.refuse -/

@[simp] theorem State.refuse_params (s : State) :
    (s.refuse).params = s.params := rfl

@[simp] theorem State.refuse_phase (s : State) :
    (s.refuse).phase = s.phase := rfl

@[simp] theorem State.refuse_outcome (s : State) :
    (s.refuse).outcome = s.outcome := rfl

@[simp] theorem State.refuse_fatalCode (s : State) :
    (s.refuse).fatalCode = s.fatalCode := rfl

@[simp] theorem State.refuse_config (s : State) :
    (s.refuse).config = s.config := rfl

@[simp] theorem State.refuse_ceiling (s : State) :
    (s.refuse).ceiling = s.ceiling := rfl

@[simp] theorem State.refuse_frameCount (s : State) :
    (s.refuse).frameCount = s.frameCount := rfl

@[simp] theorem State.refuse_byteCount (s : State) :
    (s.refuse).byteCount = s.byteCount := rfl

@[simp] theorem State.refuse_errTotal (s : State) :
    (s.refuse).errTotal = s.errTotal := rfl

@[simp] theorem State.refuse_bsErrTotal (s : State) :
    (s.refuse).bsErrTotal = s.bsErrTotal := rfl

@[simp] theorem State.refuse_corruptFrame (s : State) :
    (s.refuse).corruptFrame = s.corruptFrame := rfl

@[simp] theorem State.refuse_corruptModule (s : State) :
    (s.refuse).corruptModule = s.corruptModule := rfl

@[simp] theorem State.refuse_corruptStreamOffset (s : State) :
    (s.refuse).corruptStreamOffset = s.corruptStreamOffset := rfl

@[simp] theorem State.refuse_corruptModuleOffset (s : State) :
    (s.refuse).corruptModuleOffset = s.corruptModuleOffset := rfl

@[simp] theorem State.refuse_result (s : State) :
    (s.refuse).result = s.result := rfl

@[simp] theorem State.refuse_buildLen (s : State) :
    (s.refuse).buildLen = s.buildLen := rfl

@[simp] theorem State.refuse_buildTag (s : State) :
    (s.refuse).buildTag = s.buildTag := rfl

@[simp] theorem State.refuse_modules (s : State) :
    (s.refuse).modules = s.modules := rfl

@[simp] theorem State.refuse_frame (s : State) :
    (s.refuse).frame = s.frame := rfl

@[simp] theorem State.refuse_layout (s : State) :
    (s.refuse).layout = s.layout := rfl

@[simp] theorem State.refuse_queue (s : State) :
    (s.refuse).queue = s.queue.drop 1 := rfl

@[simp] theorem State.refuse_input (s : State) :
    (s.refuse).input = s.input := rfl

@[simp] theorem State.refuse_sink (s : State) :
    (s.refuse).sink = s.sink := rfl

@[simp] theorem State.refuse_diag (s : State) :
    (s.refuse).diag = s.diag := rfl

@[simp] theorem State.refuse_responses (s : State) :
    (s.refuse).responses = s.responses ++ [.refused] := rfl

/-! ### State.answer -/

@[simp] theorem State.answer_params (v : DWord) (s : State) :
    (s.answer v).params = s.params := rfl

@[simp] theorem State.answer_phase (v : DWord) (s : State) :
    (s.answer v).phase = s.phase := rfl

@[simp] theorem State.answer_outcome (v : DWord) (s : State) :
    (s.answer v).outcome = s.outcome := rfl

@[simp] theorem State.answer_fatalCode (v : DWord) (s : State) :
    (s.answer v).fatalCode = s.fatalCode := rfl

@[simp] theorem State.answer_config (v : DWord) (s : State) :
    (s.answer v).config = s.config := rfl

@[simp] theorem State.answer_ceiling (v : DWord) (s : State) :
    (s.answer v).ceiling = s.ceiling := rfl

@[simp] theorem State.answer_frameCount (v : DWord) (s : State) :
    (s.answer v).frameCount = s.frameCount := rfl

@[simp] theorem State.answer_byteCount (v : DWord) (s : State) :
    (s.answer v).byteCount = s.byteCount := rfl

@[simp] theorem State.answer_errTotal (v : DWord) (s : State) :
    (s.answer v).errTotal = s.errTotal := rfl

@[simp] theorem State.answer_bsErrTotal (v : DWord) (s : State) :
    (s.answer v).bsErrTotal = s.bsErrTotal := rfl

@[simp] theorem State.answer_corruptFrame (v : DWord) (s : State) :
    (s.answer v).corruptFrame = s.corruptFrame := rfl

@[simp] theorem State.answer_corruptModule (v : DWord) (s : State) :
    (s.answer v).corruptModule = s.corruptModule := rfl

@[simp] theorem State.answer_corruptStreamOffset (v : DWord) (s : State) :
    (s.answer v).corruptStreamOffset = s.corruptStreamOffset := rfl

@[simp] theorem State.answer_corruptModuleOffset (v : DWord) (s : State) :
    (s.answer v).corruptModuleOffset = s.corruptModuleOffset := rfl

@[simp] theorem State.answer_result (v : DWord) (s : State) :
    (s.answer v).result = v := rfl

@[simp] theorem State.answer_buildLen (v : DWord) (s : State) :
    (s.answer v).buildLen = s.buildLen := rfl

@[simp] theorem State.answer_buildTag (v : DWord) (s : State) :
    (s.answer v).buildTag = s.buildTag := rfl

@[simp] theorem State.answer_modules (v : DWord) (s : State) :
    (s.answer v).modules = s.modules := rfl

@[simp] theorem State.answer_frame (v : DWord) (s : State) :
    (s.answer v).frame = s.frame := rfl

@[simp] theorem State.answer_layout (v : DWord) (s : State) :
    (s.answer v).layout = s.layout := rfl

@[simp] theorem State.answer_queue (v : DWord) (s : State) :
    (s.answer v).queue = s.queue.drop 1 := rfl

@[simp] theorem State.answer_input (v : DWord) (s : State) :
    (s.answer v).input = s.input := rfl

@[simp] theorem State.answer_sink (v : DWord) (s : State) :
    (s.answer v).sink = s.sink := rfl

@[simp] theorem State.answer_diag (v : DWord) (s : State) :
    (s.answer v).diag = s.diag := rfl

@[simp] theorem State.answer_responses (v : DWord) (s : State) :
    (s.answer v).responses = s.responses ++ [.ok v] := rfl

/-! ### State.endRun -/

@[simp] theorem State.endRun_params (o : RunOutcome) (s : State) :
    (s.endRun o).params = s.params := rfl

@[simp] theorem State.endRun_phase (o : RunOutcome) (s : State) :
    (s.endRun o).phase = .done := rfl

@[simp] theorem State.endRun_outcome (o : RunOutcome) (s : State) :
    (s.endRun o).outcome = o := rfl

@[simp] theorem State.endRun_fatalCode (o : RunOutcome) (s : State) :
    (s.endRun o).fatalCode = s.fatalCode := rfl

@[simp] theorem State.endRun_config (o : RunOutcome) (s : State) :
    (s.endRun o).config = s.config := rfl

@[simp] theorem State.endRun_ceiling (o : RunOutcome) (s : State) :
    (s.endRun o).ceiling = s.ceiling := rfl

@[simp] theorem State.endRun_frameCount (o : RunOutcome) (s : State) :
    (s.endRun o).frameCount = s.frameCount := rfl

@[simp] theorem State.endRun_byteCount (o : RunOutcome) (s : State) :
    (s.endRun o).byteCount = s.byteCount := rfl

@[simp] theorem State.endRun_errTotal (o : RunOutcome) (s : State) :
    (s.endRun o).errTotal = s.errTotal := rfl

@[simp] theorem State.endRun_bsErrTotal (o : RunOutcome) (s : State) :
    (s.endRun o).bsErrTotal = s.bsErrTotal := rfl

@[simp] theorem State.endRun_corruptFrame (o : RunOutcome) (s : State) :
    (s.endRun o).corruptFrame = s.corruptFrame := rfl

@[simp] theorem State.endRun_corruptModule (o : RunOutcome) (s : State) :
    (s.endRun o).corruptModule = s.corruptModule := rfl

@[simp] theorem State.endRun_corruptStreamOffset (o : RunOutcome) (s : State) :
    (s.endRun o).corruptStreamOffset = s.corruptStreamOffset := rfl

@[simp] theorem State.endRun_corruptModuleOffset (o : RunOutcome) (s : State) :
    (s.endRun o).corruptModuleOffset = s.corruptModuleOffset := rfl

@[simp] theorem State.endRun_result (o : RunOutcome) (s : State) :
    (s.endRun o).result = s.result := rfl

@[simp] theorem State.endRun_buildLen (o : RunOutcome) (s : State) :
    (s.endRun o).buildLen = s.buildLen := rfl

@[simp] theorem State.endRun_buildTag (o : RunOutcome) (s : State) :
    (s.endRun o).buildTag = s.buildTag := rfl

@[simp] theorem State.endRun_modules (o : RunOutcome) (s : State) :
    (s.endRun o).modules = s.modules := rfl

@[simp] theorem State.endRun_frame (o : RunOutcome) (s : State) :
    (s.endRun o).frame = s.frame := rfl

@[simp] theorem State.endRun_layout (o : RunOutcome) (s : State) :
    (s.endRun o).layout = s.layout := rfl

@[simp] theorem State.endRun_queue (o : RunOutcome) (s : State) :
    (s.endRun o).queue = s.queue := rfl

@[simp] theorem State.endRun_input (o : RunOutcome) (s : State) :
    (s.endRun o).input = s.input := rfl

@[simp] theorem State.endRun_sink (o : RunOutcome) (s : State) :
    (s.endRun o).sink = s.sink := rfl

@[simp] theorem State.endRun_diag (o : RunOutcome) (s : State) :
    (s.endRun o).diag = s.diag ++ [.summary o s.errTotal s.frameCount] := rfl

@[simp] theorem State.endRun_responses (o : RunOutcome) (s : State) :
    (s.endRun o).responses = s.responses := rfl

/-! ### State.sinkWrite -/

@[simp] theorem State.sinkWrite_params (b : List Byte) (s : State) :
    (s.sinkWrite b).params = s.params := rfl

@[simp] theorem State.sinkWrite_phase (b : List Byte) (s : State) :
    (s.sinkWrite b).phase = s.phase := rfl

@[simp] theorem State.sinkWrite_outcome (b : List Byte) (s : State) :
    (s.sinkWrite b).outcome = s.outcome := rfl

@[simp] theorem State.sinkWrite_fatalCode (b : List Byte) (s : State) :
    (s.sinkWrite b).fatalCode = s.fatalCode := rfl

@[simp] theorem State.sinkWrite_config (b : List Byte) (s : State) :
    (s.sinkWrite b).config = s.config := rfl

@[simp] theorem State.sinkWrite_ceiling (b : List Byte) (s : State) :
    (s.sinkWrite b).ceiling = s.ceiling := rfl

@[simp] theorem State.sinkWrite_frameCount (b : List Byte) (s : State) :
    (s.sinkWrite b).frameCount = s.frameCount := rfl

@[simp] theorem State.sinkWrite_byteCount (b : List Byte) (s : State) :
    (s.sinkWrite b).byteCount = s.byteCount := rfl

@[simp] theorem State.sinkWrite_errTotal (b : List Byte) (s : State) :
    (s.sinkWrite b).errTotal = s.errTotal := rfl

@[simp] theorem State.sinkWrite_bsErrTotal (b : List Byte) (s : State) :
    (s.sinkWrite b).bsErrTotal = s.bsErrTotal := rfl

@[simp] theorem State.sinkWrite_corruptFrame (b : List Byte) (s : State) :
    (s.sinkWrite b).corruptFrame = s.corruptFrame := rfl

@[simp] theorem State.sinkWrite_corruptModule (b : List Byte) (s : State) :
    (s.sinkWrite b).corruptModule = s.corruptModule := rfl

@[simp] theorem State.sinkWrite_corruptStreamOffset (b : List Byte) (s : State) :
    (s.sinkWrite b).corruptStreamOffset = s.corruptStreamOffset := rfl

@[simp] theorem State.sinkWrite_corruptModuleOffset (b : List Byte) (s : State) :
    (s.sinkWrite b).corruptModuleOffset = s.corruptModuleOffset := rfl

@[simp] theorem State.sinkWrite_result (b : List Byte) (s : State) :
    (s.sinkWrite b).result = s.result := rfl

@[simp] theorem State.sinkWrite_buildLen (b : List Byte) (s : State) :
    (s.sinkWrite b).buildLen = s.buildLen := rfl

@[simp] theorem State.sinkWrite_buildTag (b : List Byte) (s : State) :
    (s.sinkWrite b).buildTag = s.buildTag := rfl

@[simp] theorem State.sinkWrite_modules (b : List Byte) (s : State) :
    (s.sinkWrite b).modules = s.modules := rfl

@[simp] theorem State.sinkWrite_frame (b : List Byte) (s : State) :
    (s.sinkWrite b).frame = s.frame := rfl

@[simp] theorem State.sinkWrite_layout (b : List Byte) (s : State) :
    (s.sinkWrite b).layout = s.layout := rfl

@[simp] theorem State.sinkWrite_queue (b : List Byte) (s : State) :
    (s.sinkWrite b).queue = s.queue := rfl

@[simp] theorem State.sinkWrite_input (b : List Byte) (s : State) :
    (s.sinkWrite b).input = s.input := rfl

@[simp] theorem State.sinkWrite_sink (b : List Byte) (s : State) :
    (s.sinkWrite b).sink = if s.params.sinkPresent then s.sink ++ b else s.sink := rfl

@[simp] theorem State.sinkWrite_diag (b : List Byte) (s : State) :
    (s.sinkWrite b).diag = s.diag := rfl

@[simp] theorem State.sinkWrite_responses (b : List Byte) (s : State) :
    (s.sinkWrite b).responses = s.responses := rfl

/-! ### State.countFrame -/

@[simp] theorem State.countFrame_params (s : State) :
    (s.countFrame).params = s.params := rfl

@[simp] theorem State.countFrame_phase (s : State) :
    (s.countFrame).phase = s.phase := rfl

@[simp] theorem State.countFrame_outcome (s : State) :
    (s.countFrame).outcome = s.outcome := rfl

@[simp] theorem State.countFrame_fatalCode (s : State) :
    (s.countFrame).fatalCode = s.fatalCode := rfl

@[simp] theorem State.countFrame_config (s : State) :
    (s.countFrame).config = s.config := rfl

@[simp] theorem State.countFrame_ceiling (s : State) :
    (s.countFrame).ceiling = s.ceiling := rfl

@[simp] theorem State.countFrame_frameCount (s : State) :
    (s.countFrame).frameCount = s.frameCount + 1 := rfl

@[simp] theorem State.countFrame_byteCount (s : State) :
    (s.countFrame).byteCount = s.byteCount + BitVec.ofNat 64 (frameBytes s) := rfl

@[simp] theorem State.countFrame_errTotal (s : State) :
    (s.countFrame).errTotal = s.errTotal := rfl

@[simp] theorem State.countFrame_bsErrTotal (s : State) :
    (s.countFrame).bsErrTotal = s.bsErrTotal := rfl

@[simp] theorem State.countFrame_corruptFrame (s : State) :
    (s.countFrame).corruptFrame = s.corruptFrame := rfl

@[simp] theorem State.countFrame_corruptModule (s : State) :
    (s.countFrame).corruptModule = s.corruptModule := rfl

@[simp] theorem State.countFrame_corruptStreamOffset (s : State) :
    (s.countFrame).corruptStreamOffset = s.corruptStreamOffset := rfl

@[simp] theorem State.countFrame_corruptModuleOffset (s : State) :
    (s.countFrame).corruptModuleOffset = s.corruptModuleOffset := rfl

@[simp] theorem State.countFrame_result (s : State) :
    (s.countFrame).result = s.result := rfl

@[simp] theorem State.countFrame_buildLen (s : State) :
    (s.countFrame).buildLen = s.buildLen := rfl

@[simp] theorem State.countFrame_buildTag (s : State) :
    (s.countFrame).buildTag = s.buildTag := rfl

@[simp] theorem State.countFrame_modules (s : State) :
    (s.countFrame).modules = s.modules := rfl

@[simp] theorem State.countFrame_frame (s : State) :
    (s.countFrame).frame = s.frame := rfl

@[simp] theorem State.countFrame_layout (s : State) :
    (s.countFrame).layout = s.layout := rfl

@[simp] theorem State.countFrame_queue (s : State) :
    (s.countFrame).queue = s.queue := rfl

@[simp] theorem State.countFrame_input (s : State) :
    (s.countFrame).input = s.input := rfl

@[simp] theorem State.countFrame_sink (s : State) :
    (s.countFrame).sink = s.sink := rfl

@[simp] theorem State.countFrame_diag (s : State) :
    (s.countFrame).diag = s.diag := rfl

@[simp] theorem State.countFrame_responses (s : State) :
    (s.countFrame).responses = s.responses := rfl

/-! ### State.resultStatus -/

@[simp] theorem State.resultStatus_params (s : State) :
    (s.resultStatus).params = s.params := rfl

@[simp] theorem State.resultStatus_phase (s : State) :
    (s.resultStatus).phase = s.phase := rfl

@[simp] theorem State.resultStatus_outcome (s : State) :
    (s.resultStatus).outcome = s.outcome := rfl

@[simp] theorem State.resultStatus_fatalCode (s : State) :
    (s.resultStatus).fatalCode = s.fatalCode := rfl

@[simp] theorem State.resultStatus_config (s : State) :
    (s.resultStatus).config = s.config := rfl

@[simp] theorem State.resultStatus_ceiling (s : State) :
    (s.resultStatus).ceiling = s.ceiling := rfl

@[simp] theorem State.resultStatus_frameCount (s : State) :
    (s.resultStatus).frameCount = s.frameCount := rfl

@[simp] theorem State.resultStatus_byteCount (s : State) :
    (s.resultStatus).byteCount = s.byteCount := rfl

@[simp] theorem State.resultStatus_errTotal (s : State) :
    (s.resultStatus).errTotal = s.errTotal := rfl

@[simp] theorem State.resultStatus_bsErrTotal (s : State) :
    (s.resultStatus).bsErrTotal = s.bsErrTotal := rfl

@[simp] theorem State.resultStatus_corruptFrame (s : State) :
    (s.resultStatus).corruptFrame = s.corruptFrame := rfl

@[simp] theorem State.resultStatus_corruptModule (s : State) :
    (s.resultStatus).corruptModule = s.corruptModule := rfl

@[simp] theorem State.resultStatus_corruptStreamOffset (s : State) :
    (s.resultStatus).corruptStreamOffset = s.corruptStreamOffset := rfl

@[simp] theorem State.resultStatus_corruptModuleOffset (s : State) :
    (s.resultStatus).corruptModuleOffset = s.corruptModuleOffset := rfl

@[simp] theorem State.resultStatus_result (s : State) :
    (s.resultStatus).result = statusWord s := rfl

@[simp] theorem State.resultStatus_buildLen (s : State) :
    (s.resultStatus).buildLen = s.buildLen := rfl

@[simp] theorem State.resultStatus_buildTag (s : State) :
    (s.resultStatus).buildTag = s.buildTag := rfl

@[simp] theorem State.resultStatus_modules (s : State) :
    (s.resultStatus).modules = s.modules := rfl

@[simp] theorem State.resultStatus_frame (s : State) :
    (s.resultStatus).frame = s.frame := rfl

@[simp] theorem State.resultStatus_layout (s : State) :
    (s.resultStatus).layout = s.layout := rfl

@[simp] theorem State.resultStatus_queue (s : State) :
    (s.resultStatus).queue = s.queue := rfl

@[simp] theorem State.resultStatus_input (s : State) :
    (s.resultStatus).input = s.input := rfl

@[simp] theorem State.resultStatus_sink (s : State) :
    (s.resultStatus).sink = s.sink := rfl

@[simp] theorem State.resultStatus_diag (s : State) :
    (s.resultStatus).diag = s.diag := rfl

@[simp] theorem State.resultStatus_responses (s : State) :
    (s.resultStatus).responses = s.responses := rfl

/-! ### State.withValidation -/

@[simp] theorem State.withValidation_params (m : Nat) (v : Validation) (s : State) :
    (s.withValidation m v).params = s.params := rfl

@[simp] theorem State.withValidation_phase (m : Nat) (v : Validation) (s : State) :
    (s.withValidation m v).phase = s.phase := rfl

@[simp] theorem State.withValidation_outcome (m : Nat) (v : Validation) (s : State) :
    (s.withValidation m v).outcome = s.outcome := rfl

@[simp] theorem State.withValidation_fatalCode (m : Nat) (v : Validation) (s : State) :
    (s.withValidation m v).fatalCode = s.fatalCode := rfl

@[simp] theorem State.withValidation_config (m : Nat) (v : Validation) (s : State) :
    (s.withValidation m v).config = s.config := rfl

@[simp] theorem State.withValidation_ceiling (m : Nat) (v : Validation) (s : State) :
    (s.withValidation m v).ceiling = s.ceiling := rfl

@[simp] theorem State.withValidation_frameCount (m : Nat) (v : Validation) (s : State) :
    (s.withValidation m v).frameCount = s.frameCount := rfl

@[simp] theorem State.withValidation_byteCount (m : Nat) (v : Validation) (s : State) :
    (s.withValidation m v).byteCount = s.byteCount := rfl

@[simp] theorem State.withValidation_errTotal (m : Nat) (v : Validation) (s : State) :
    (s.withValidation m v).errTotal = s.errTotal + v.verdict.ec.zeroExtend 64 := rfl

@[simp] theorem State.withValidation_bsErrTotal (m : Nat) (v : Validation) (s : State) :
    (s.withValidation m v).bsErrTotal = if v.violation then s.bsErrTotal + 1 else s.bsErrTotal := rfl

@[simp] theorem State.withValidation_corruptFrame (m : Nat) (v : Validation) (s : State) :
    (s.withValidation m v).corruptFrame = s.corruptFrame := rfl

@[simp] theorem State.withValidation_corruptModule (m : Nat) (v : Validation) (s : State) :
    (s.withValidation m v).corruptModule = s.corruptModule := rfl

@[simp] theorem State.withValidation_corruptStreamOffset (m : Nat) (v : Validation) (s : State) :
    (s.withValidation m v).corruptStreamOffset = s.corruptStreamOffset := rfl

@[simp] theorem State.withValidation_corruptModuleOffset (m : Nat) (v : Validation) (s : State) :
    (s.withValidation m v).corruptModuleOffset = s.corruptModuleOffset := rfl

@[simp] theorem State.withValidation_result (m : Nat) (v : Validation) (s : State) :
    (s.withValidation m v).result = s.result := rfl

@[simp] theorem State.withValidation_buildLen (m : Nat) (v : Validation) (s : State) :
    (s.withValidation m v).buildLen = s.buildLen := rfl

@[simp] theorem State.withValidation_buildTag (m : Nat) (v : Validation) (s : State) :
    (s.withValidation m v).buildTag = s.buildTag := rfl

@[simp] theorem State.withValidation_modules (m : Nat) (v : Validation) (s : State) :
    (s.withValidation m v).modules = s.modules.set m v.module := rfl

@[simp] theorem State.withValidation_frame (m : Nat) (v : Validation) (s : State) :
    (s.withValidation m v).frame = s.frame := rfl

@[simp] theorem State.withValidation_layout (m : Nat) (v : Validation) (s : State) :
    (s.withValidation m v).layout = s.layout := rfl

@[simp] theorem State.withValidation_queue (m : Nat) (v : Validation) (s : State) :
    (s.withValidation m v).queue = s.queue := rfl

@[simp] theorem State.withValidation_input (m : Nat) (v : Validation) (s : State) :
    (s.withValidation m v).input = s.input := rfl

@[simp] theorem State.withValidation_sink (m : Nat) (v : Validation) (s : State) :
    (s.withValidation m v).sink = s.sink := rfl

@[simp] theorem State.withValidation_diag (m : Nat) (v : Validation) (s : State) :
    (s.withValidation m v).diag = s.diag ++ v.events := rfl

@[simp] theorem State.withValidation_responses (m : Nat) (v : Validation) (s : State) :
    (s.withValidation m v).responses = s.responses := rfl

/-! ### State.bind -/

@[simp] theorem State.bind_params (st : InputStream) (s : State) :
    (s.bind st).params = s.params := rfl

@[simp] theorem State.bind_phase (st : InputStream) (s : State) :
    (s.bind st).phase = s.phase := rfl

@[simp] theorem State.bind_outcome (st : InputStream) (s : State) :
    (s.bind st).outcome = s.outcome := rfl

@[simp] theorem State.bind_fatalCode (st : InputStream) (s : State) :
    (s.bind st).fatalCode = s.fatalCode := rfl

@[simp] theorem State.bind_config (st : InputStream) (s : State) :
    (s.bind st).config = s.config := rfl

@[simp] theorem State.bind_ceiling (st : InputStream) (s : State) :
    (s.bind st).ceiling = s.ceiling := rfl

@[simp] theorem State.bind_frameCount (st : InputStream) (s : State) :
    (s.bind st).frameCount = s.frameCount := rfl

@[simp] theorem State.bind_byteCount (st : InputStream) (s : State) :
    (s.bind st).byteCount = s.byteCount := rfl

@[simp] theorem State.bind_errTotal (st : InputStream) (s : State) :
    (s.bind st).errTotal = s.errTotal := rfl

@[simp] theorem State.bind_bsErrTotal (st : InputStream) (s : State) :
    (s.bind st).bsErrTotal = s.bsErrTotal := rfl

@[simp] theorem State.bind_corruptFrame (st : InputStream) (s : State) :
    (s.bind st).corruptFrame = s.corruptFrame := rfl

@[simp] theorem State.bind_corruptModule (st : InputStream) (s : State) :
    (s.bind st).corruptModule = s.corruptModule := rfl

@[simp] theorem State.bind_corruptStreamOffset (st : InputStream) (s : State) :
    (s.bind st).corruptStreamOffset = s.corruptStreamOffset := rfl

@[simp] theorem State.bind_corruptModuleOffset (st : InputStream) (s : State) :
    (s.bind st).corruptModuleOffset = s.corruptModuleOffset := rfl

@[simp] theorem State.bind_result (st : InputStream) (s : State) :
    (s.bind st).result = s.result := rfl

@[simp] theorem State.bind_buildLen (st : InputStream) (s : State) :
    (s.bind st).buildLen = s.buildLen := rfl

@[simp] theorem State.bind_buildTag (st : InputStream) (s : State) :
    (s.bind st).buildTag = s.buildTag := rfl

@[simp] theorem State.bind_modules (st : InputStream) (s : State) :
    (s.bind st).modules = s.modules := rfl

@[simp] theorem State.bind_frame (st : InputStream) (s : State) :
    (s.bind st).frame = s.frame := rfl

@[simp] theorem State.bind_layout (st : InputStream) (s : State) :
    (s.bind st).layout = s.layout := rfl

@[simp] theorem State.bind_queue (st : InputStream) (s : State) :
    (s.bind st).queue = s.queue.drop 1 := rfl

@[simp] theorem State.bind_input (st : InputStream) (s : State) :
    (s.bind st).input = { st with pos := 0, reads := 0 } := rfl

@[simp] theorem State.bind_sink (st : InputStream) (s : State) :
    (s.bind st).sink = s.sink := rfl

@[simp] theorem State.bind_diag (st : InputStream) (s : State) :
    (s.bind st).diag = s.diag := rfl

@[simp] theorem State.bind_responses (st : InputStream) (s : State) :
    (s.bind st).responses = s.responses := rfl

end Sys2Proof.Machine
end

