-- ==== Sys2Proof/Laws/Ops.lean ====
section
/-! SUPPORT. What each shared operation can do, said once: the legality checks, the data ports and the frame buffer. -/

namespace Sys2Proof.Machine

/-- The checks of R335, when they all pass. -/
theorem guarded_of_legal {ok : Bool} {legal : List Phase} {s : State} {body : Host.Outcome State Fault Refusal}
    (hok : ok = true) (hlegal : s.phase ∈ legal) (hfatal : s.phase ≠ .fatal) : guarded ok legal s body = body := by
  simp [guarded, hok, hlegal, hfatal]

/-- Everything the checks of R335 can come to. -/
theorem guarded_cases {ok : Bool} {legal : List Phase} {s : State} {body : Host.Outcome State Fault Refusal} :
    (s.phase = .fatal ∧ guarded ok legal s body = .next s.refuse) ∨
    (s.phase ≠ .fatal ∧ ok = false ∧ guarded ok legal s body = .next (s.raise .cmdIllegal)) ∨
    (s.phase ≠ .fatal ∧ ok = true ∧ s.phase ∉ legal ∧ guarded ok legal s body = .next (s.raise .cmdPhase)) ∨
    (s.phase ≠ .fatal ∧ ok = true ∧ s.phase ∈ legal ∧ guarded ok legal s body = body) := by
  by_cases hf : s.phase = .fatal
  · exact .inl ⟨hf, by simp [guarded, hf]⟩
  · cases hok : ok
    · exact .inr (.inl ⟨hf, rfl, by simp [guarded, hf]⟩)
    · by_cases hl : s.phase ∈ legal
      · exact .inr (.inr (.inr ⟨hf, rfl, hl, by simp [guarded, hf, hl]⟩))
      · exact .inr (.inr (.inl ⟨hf, rfl, hl, by simp [guarded, hf, hl]⟩))

/-- Everything an illegal command can come to (R333, R343). -/
theorem illegal_cases (s : State) :
    (s.phase = .fatal ∧ s.illegal = s.refuse) ∨ (s.phase ≠ .fatal ∧ s.illegal = s.raise .cmdIllegal) := by
  by_cases hf : s.phase = .fatal
  · exact .inl ⟨hf, by simp [State.illegal, hf]⟩
  · exact .inr ⟨hf, by simp [State.illegal, hf]⟩

/-- A read never supplies more than it was asked for (R71). -/
theorem window_length_le (n : Nat) (st : InputStream) : (st.window n).length ≤ n := by
  have h := List.length_filterMap_le (fun k => st.byteAt (st.pos + k)) (List.range n)
  simpa [InputStream.window] using h

/-- Everything StreamRead can come to (R71): no return, on a stream that has not ended; an error, which moves nothing; or
at most n bytes, which move POS by as many, a short read only at the end of the stream. -/
theorem streamRead_cases (n : Nat) (st : InputStream) :
    (streamRead n st = .waits ∧ st.reads ∉ st.failing ∧ (st.window n).length < n ∧ st.tail ≠ .ended) ∨
    (streamRead n st = .error { st with reads := st.reads + 1 } ∧ st.reads ∈ st.failing) ∨
    (streamRead n st = .bytes (st.window n) { st with pos := st.pos + (st.window n).length, reads := st.reads + 1 } ∧
      st.reads ∉ st.failing ∧ ((st.window n).length = n ∨ st.tail = .ended)) := by
  by_cases hr : st.reads ∈ st.failing
  · exact .inr (.inl ⟨by simp [streamRead, hr], hr⟩)
  · by_cases hw : (st.window n).length < n ∧ st.tail ≠ .ended
    · exact .inl ⟨by simp [streamRead, hr, hw], hr, hw.1, hw.2⟩
    · refine .inr (.inr ⟨by simp [streamRead, hr, hw], hr, ?_⟩)
      by_cases he : st.tail = .ended
      · exact .inr he
      · have hle := window_length_le n st
        have hnot : ¬(st.window n).length < n := fun hlt => hw ⟨hlt, he⟩
        exact .inl (by omega)

/-- What a read that returned bytes says of them and of the stream after it. -/
theorem streamRead_bytes {n : Nat} {st st' : InputStream} {b : List Byte} (h : streamRead n st = .bytes b st') :
    b = st.window n ∧ b.length ≤ n ∧ st' = { st with pos := st.pos + b.length, reads := st.reads + 1 } := by
  rcases streamRead_cases n st with ⟨h', _⟩ | ⟨h', _⟩ | ⟨h', _⟩ <;> rw [h'] at h
  · cases h
  · cases h
  · cases h
    exact ⟨rfl, window_length_le n st, rfl⟩

/-- A failed read moves nothing (R71). -/
theorem streamRead_error {n : Nat} {st st' : InputStream} (h : streamRead n st = .error st') :
    st' = { st with reads := st.reads + 1 } := by
  rcases streamRead_cases n st with ⟨h', _⟩ | ⟨h', _⟩ | ⟨h', _⟩ <;> rw [h'] at h <;> cases h
  rfl

/-- Four bytes a word (R72). -/
theorem decodeFrame_length (b : List Byte) : (decodeFrame b).length = b.length / 4 := by
  induction b using decodeFrame.induct with
  | case1 b0 b1 b2 b3 rest ih => simp [decodeFrame, ih]; omega
  | case2 b h =>
    match b with
    | [] => simp [decodeFrame]
    | [_] => simp [decodeFrame]
    | [_, _] => simp [decodeFrame]
    | [_, _, _] => simp [decodeFrame]
    | b0 :: b1 :: b2 :: b3 :: rest => exact absurd rfl (h b0 b1 b2 b3 rest)

/-- A slice is there exactly when it lies in the frame (R78). -/
theorem frameSlice_eq_some {frame slice : List Word} {base len : Nat} :
    frameSlice frame base len = some slice ↔ base + len ≤ frame.length ∧ slice = (frame.drop base).take len := by
  by_cases h : base + len ≤ frame.length
  · simp [frameSlice, h, eq_comm]
  · simp [frameSlice, h]

/-- A slice has the length asked for. -/
theorem frameSlice_length {frame slice : List Word} {base len : Nat} (h : frameSlice frame base len = some slice) :
    slice.length = len := by
  obtain ⟨hle, rfl⟩ := frameSlice_eq_some.mp h
  simp
  omega

end Sys2Proof.Machine
end

