-- ==== Sys2Proof/Laws/Fetch.lean ====
section
/-! SUPPORT. What a fetch and a code that spells no instruction can come to. -/

namespace Sys2Proof.Machine

theorem fetch_letter {s : State} {b : Byte} {rest : List Byte} (h : s.layout.text = b :: rest) :
    fetch s = .code (.letter b) { s with layout := { s.layout with text := rest } } := by
  simp [fetch, h]

theorem fetch_idle {s : State} (h : s.layout.text = []) (hq : s.queue = []) : fetch s = .idle := by
  simp [fetch, h, hq]

theorem fetch_bindStream {s : State} {st : InputStream} {q : List HostItem} (h : s.layout.text = [])
    (hq : s.queue = .bindStream st :: q) : fetch s = .bindStream st := by
  simp [fetch, h, hq]

theorem fetch_command {s : State} {cw : Word} {p : Payload} {q : List HostItem} (h : s.layout.text = [])
    (hq : s.queue = .command cw p :: q) : fetch s = .code (.command cw p) s := by
  simp [fetch, h, hq]

/-- Everything a fetch can come to. -/
theorem fetch_cases (s : State) :
    (s.layout.text = [] ∧ s.queue = [] ∧ fetch s = .idle) ∨
    (∃ st q, s.layout.text = [] ∧ s.queue = .bindStream st :: q ∧ fetch s = .bindStream st) ∨
    (∃ cw p q, s.layout.text = [] ∧ s.queue = .command cw p :: q ∧ fetch s = .code (.command cw p) s) ∨
    (∃ b rest, s.layout.text = b :: rest ∧
      fetch s = .code (.letter b) { s with layout := { s.layout with text := rest } }) := by
  cases ht : s.layout.text with
  | cons b rest => exact .inr (.inr (.inr ⟨b, rest, rfl, fetch_letter ht⟩))
  | nil =>
    cases hq : s.queue with
    | nil => exact .inl ⟨rfl, rfl, fetch_idle ht hq⟩
    | cons item q =>
      cases item with
      | command cw p => exact .inr (.inr (.inl ⟨cw, p, q, rfl, rfl, fetch_command ht hq⟩))
      | bindStream st => exact .inr (.inl ⟨st, q, rfl, rfl, fetch_bindStream ht hq⟩)

/-- Everything a code that spells no instruction can come to (R142, R333, R343). -/
theorem undecodable_cases (e : DecodeError) (s : State) :
    (s.phase = .fatal ∧ undecodable e s = s.refuse) ∨
    (s.phase ≠ .fatal ∧ e ≠ .illegalLetter ∧ undecodable e s = s.raise .cmdIllegal) ∨
    (s.phase ≠ .fatal ∧ e = .illegalLetter ∧
      undecodable e s = State.raise .cfgBadChar { s with layout := Layout.idle }) := by
  by_cases h : s.phase = .fatal <;> cases e <;> simp [undecodable, State.illegal, h]

end Sys2Proof.Machine
end

