-- ==== Sys2Proof/Laws/Layout.lean ====
section
/-! SUPPORT. What a bank letter does to the table being built, said once for all eight, and the definition checks before
the bank text. -/

namespace Sys2Proof.Machine

/-- A letter is accepted exactly when it has not appeared (R143). -/
theorem acceptLetter_eq (c : BankLetter) (lay : Layout) :
    acceptLetter c lay =
      if c ∈ lay.banks then .error .cfgDupBank else .ok { lay with banks := lay.banks ++ [c] } := rfl

/-- A channel letter that has not appeared puts one group at the end of each half's nearer side (R146 to R148). -/
theorem acceptChannelBank_of_not_mem {c : BankLetter} {lay : Layout} (h : c ∉ lay.banks) :
    acceptChannelBank c lay = .ok { lay with
      banks := lay.banks ++ [c]
      lower := lay.lower ++ idGroup lay.site (8 * channelBanks lay)
      upper := idGroup lay.site (8 * channelBanks lay + 4) ++ lay.upper } := by
  simp [acceptChannelBank, acceptLetter_eq, h]

/-- A letter with entries behind the ABCD block appends them (R153). -/
theorem acceptTailBank_of_not_mem {c : BankLetter} {entries : List Tag} {lay : Layout} (h : c ∉ lay.banks) :
    acceptTailBank c entries lay = .ok { lay with banks := lay.banks ++ [c], tail := lay.tail ++ entries } := by
  simp [acceptTailBank, acceptLetter_eq, h]

/-- A letter that has appeared is refused, whichever it is (R143). -/
theorem letterEffect_of_mem {c : BankLetter} {spad : Bool} {lay : Layout} (h : c ∈ lay.banks) :
    letterEffect c spad lay = .error .cfgDupBank := by
  cases c <;>
    simp [letterEffect, letterA, letterB, letterC, letterD, letterS, letterP, letterL, letterM, acceptChannelBank,
      acceptTailBank, acceptLetter_eq, h]

/-- A letter that has not appeared is accepted: it is recorded, and neither the site nor the text changes. -/
theorem letterEffect_of_not_mem {c : BankLetter} {spad : Bool} {lay : Layout} (h : c ∉ lay.banks) :
    ∃ lay', letterEffect c spad lay = .ok lay' ∧ lay'.banks = lay.banks ++ [c] ∧ lay'.site = lay.site ∧
      lay'.text = lay.text := by
  cases c <;>
    simp [letterEffect, letterA, letterB, letterC, letterD, letterS, letterP, letterL, letterM, acceptChannelBank,
      acceptTailBank, acceptLetter_eq, h]

/-- The letter a byte spells is the one its own byte spells (R107). -/
theorem letterOf_letterByte (c : BankLetter) : letterOf (letterByte c) = some c := by
  cases c <;> rfl

/-- The scan of a text that begins with an accepted letter (R145). -/
theorem scanBanks_cons {c : BankLetter} {spad : Bool} {lay lay' : Layout} {rest : List Byte}
    (h : letterEffect c spad lay = .ok lay') :
    scanBanks spad (letterByte c :: rest) lay = scanBanks spad rest lay' := by
  simp [scanBanks, letterOf_letterByte, h]

/-- Everything a single letter's execution can come to. -/
theorem execLetter_cases (effect : Bool → Layout → Except FatalCode Layout) (s : State) :
    (s.phase = .fatal ∧ execLetter effect s = .next s.refuse) ∨
    (s.phase ≠ .fatal ∧ ∃ lay, effect (spadMon s.config) s.layout = .ok lay ∧
      execLetter effect s = .next { s with layout := lay }) ∨
    (s.phase ≠ .fatal ∧ ∃ code, effect (spadMon s.config) s.layout = .error code ∧
      execLetter effect s = .next (State.raise code { s with layout := Layout.idle })) := by
  by_cases hf : s.phase = .fatal
  · exact .inl ⟨hf, by simp [execLetter, hf]⟩
  · cases he : effect (spadMon s.config) s.layout with
    | ok lay => exact .inr (.inl ⟨hf, lay, rfl, by simp [execLetter, hf, he]⟩)
    | error code => exact .inr (.inr ⟨hf, code, rfl, by simp [execLetter, hf, he]⟩)

/-- A definition without "=" is malformed (R140). -/
theorem splitDefinition_eq_none {d : List Byte} (h : (0x3D : Byte) ∉ d) : splitDefinition d = none := by
  induction d with
  | nil => rfl
  | cons b rest ih =>
    simp only [List.mem_cons, not_or] at h
    rw [splitDefinition, if_neg fun e => h.1 e.symm, ih h.2]

/-- A definition splits at its first "=" (R140). -/
theorem splitDefinition_append {site banks : List Byte} (h : (0x3D : Byte) ∉ site) :
    splitDefinition (site ++ 0x3D :: banks) = some (site, banks) := by
  induction site with
  | nil => simp [splitDefinition]
  | cons b rest ih =>
    simp only [List.mem_cons, not_or] at h
    rw [List.cons_append, splitDefinition, if_neg fun e => h.1 e.symm, ih h.2]

end Sys2Proof.Machine
end

