-- ==== Sys2Proof/Laws/PerInstr.lean ====
section
/-! SUPPORT. Per-instruction laws: the encoding of each instruction selects its own row of the opcode table (R102, R107),
so no operand, whatever its value, reaches a fixed or a reserved bit. -/

namespace Sys2Proof.Laws

/-- The mask and the match value of a command's row in R102. -/
def commandRow : Instr → Option (Word × Word)
  | .reset => some (0xFFFFFFFF, 0x00000000)
  | .setConfig _ => some (0xFFFFFFE0, 0x10000000)
  | .setCeiling _ => some (0xFFFFFFFF, 0x20000000)
  | .addModule _ _ => some (0xFFFFFF00, 0x30000000)
  | .build _ _ => some (0xFFFFFF00, 0x40000000)
  | .validate _ _ => some (0xFFFFFF00, 0x50000000)
  | .collect _ _ _ => some (0xFFFFFEE0, 0x60000000)
  | .step => some (0xFFFFFFFF, 0x70000000)
  | .run => some (0xFFFFFFFF, 0x80000000)
  | .readReg _ _ => some (0xFFFF0000, 0x90000000)
  | .bankA => none
  | .bankB => none
  | .bankC => none
  | .bankD => none
  | .bankS => none
  | .bankP => none
  | .bankL => none
  | .bankM => none

/-- The byte of a letter's row in R107. -/
def letterRow : Instr → Option Byte
  | .reset => none
  | .setConfig _ => none
  | .setCeiling _ => none
  | .addModule _ _ => none
  | .build _ _ => none
  | .validate _ _ => none
  | .collect _ _ _ => none
  | .step => none
  | .run => none
  | .readReg _ _ => none
  | .bankA => some 0x41
  | .bankB => some 0x42
  | .bankC => some 0x43
  | .bankD => some 0x44
  | .bankS => some 0x53
  | .bankP => some 0x50
  | .bankL => some 0x6C
  | .bankM => some 0x6D

/-- The code selects the row: `(CW & mask) == match` for a command, the byte itself for a letter. -/
def selectsRow : Code → Option (Word × Word) → Option Byte → Prop
  | .command cw _, some (mask, word), _ => cw &&& mask = word
  | .letter b, _, some byte => b = byte
  | _, _, _ => False

namespace EncodingSelectsRow

/-- The encoding of i selects i's row. -/
def Statement (i : Instr) : Prop := selectsRow (encode i) (commandRow i) (letterRow i)

theorem reset : Statement .reset := by simp [Statement, selectsRow, encode, commandRow]

theorem setConfig (flags : BitVec 5) : Statement (.setConfig flags) := by
  show (0x1#4 ++ 0#23 ++ flags : BitVec 32) &&& 0xFFFFFFE0 = 0x10000000
  refine BitVec.eq_of_getLsbD_eq fun i hi => ?_
  interval_cases i <;> simp only [BitVec.getLsbD_and, BitVec.getLsbD_append] <;> simp

theorem setCeiling (payload : List Word) : Statement (.setCeiling payload) := by
  simp [Statement, selectsRow, encode, commandRow]

theorem addModule (n : Byte) (text : List Byte) : Statement (.addModule n text) := by
  show (0x3#4 ++ 0#20 ++ n : BitVec 32) &&& 0xFFFFFF00 = 0x30000000
  refine BitVec.eq_of_getLsbD_eq fun i hi => ?_
  interval_cases i <;> simp only [BitVec.getLsbD_and, BitVec.getLsbD_append] <;> simp

theorem build (n : Byte) (text : List Byte) : Statement (.build n text) := by
  show (0x4#4 ++ 0#20 ++ n : BitVec 32) &&& 0xFFFFFF00 = 0x40000000
  refine BitVec.eq_of_getLsbD_eq fun i hi => ?_
  interval_cases i <;> simp only [BitVec.getLsbD_and, BitVec.getLsbD_append] <;> simp

theorem validate (m : Byte) (frame : List Word) : Statement (.validate m frame) := by
  show (0x5#4 ++ 0#20 ++ m : BitVec 32) &&& 0xFFFFFF00 = 0x50000000
  refine BitVec.eq_of_getLsbD_eq fun i hi => ?_
  interval_cases i <;> simp only [BitVec.getLsbD_and, BitVec.getLsbD_append] <;> simp

theorem collect (bit : BitVec 5) (orient : Orient) (lanes : List Word) :
    Statement (.collect bit orient lanes) := by
  show (0x6#4 ++ 0#19 ++ orientBit orient ++ 0#3 ++ bit : BitVec 32) &&& 0xFFFFFEE0 = 0x60000000
  refine BitVec.eq_of_getLsbD_eq fun i hi => ?_
  interval_cases i <;> simp only [BitVec.getLsbD_and, BitVec.getLsbD_append] <;> simp

theorem step : Statement .step := by simp [Statement, selectsRow, encode, commandRow]

theorem run : Statement .run := by simp [Statement, selectsRow, encode, commandRow]

theorem readReg (reg m : Byte) : Statement (.readReg reg m) := by
  show (0x9#4 ++ 0#12 ++ m ++ reg : BitVec 32) &&& 0xFFFF0000 = 0x90000000
  refine BitVec.eq_of_getLsbD_eq fun i hi => ?_
  interval_cases i <;> simp only [BitVec.getLsbD_and, BitVec.getLsbD_append] <;> simp

theorem bankA : Statement .bankA := rfl

theorem bankB : Statement .bankB := rfl

theorem bankC : Statement .bankC := rfl

theorem bankD : Statement .bankD := rfl

theorem bankS : Statement .bankS := rfl

theorem bankP : Statement .bankP := rfl

theorem bankL : Statement .bankL := rfl

theorem bankM : Statement .bankM := rfl

end EncodingSelectsRow

end Sys2Proof.Laws
end

