-- ==== Sys2Proof/Laws/Validator.lean ====
section
/-! SUPPORT. What one module's validation, the module loop and one frame's step can come to, each said once. -/

namespace Sys2Proof.Machine

/-- Bit k of a packed list is its k-th entry (R230). -/
theorem testBit_packBits (bits : List Bool) (k : Nat) : (packBits bits).testBit k = bits.getD k false := by
  induction bits generalizing k with
  | nil => simp [packBits]
  | cons b rest ih =>
    cases k with
    | zero => cases b <;> simp [packBits, Nat.testBit_zero]
    | succ k =>
      have hhalf : (b.toNat + 2 * packBits rest) / 2 = packBits rest := by
        cases b
        · simp
        · simp only [Bool.toNat_true]; omega
      rw [packBits, Nat.testBit_succ, hhalf, ih]
      simp

/-- The word loop never touches what a policy does not name: only ID and SampleCounter words count (R185 to R189). -/
theorem wordPolicy_scratchpad_ec (mask : Word) (j : Fin 7) (v : Word) (a : WordLoop) :
    (wordPolicy mask (.scratchpad j) v a).ec = a.ec := rfl

/-- The word loop over a slice goes word by word (R190). -/
theorem checkWords_cons (config : DWord) (m i : Nat) (tag : Tag) (v : Word) (rest : List (Tag × Word))
    (a : WordLoop) :
    checkWords config m i ((tag, v) :: rest) a =
      checkWords config m (i + 1) rest (checkWord config m i tag v a) := rfl

/-- The validation of a slice without event signature, in a module that is not decoded further. -/
def wordsValidation (config : DWord) (m : Nat) (x : Module) (slice : List Word) : Validation :=
  let a := checkWords config m 0 (x.table.zip slice) (wordLoopStart x)
  { module := afterWords x a, violation := false, events := a.events ++ echoScratchpad m a.changed,
    verdict := { ok := a.ec == 0, ec := a.ec, es := false } }

/-- Everything the validation of one slice can come to (R181, R336): the signature; the words alone; the words and the
bitslice decoding; or, for a bitslice module with too short a slice, the model's stop. -/
theorem validateSlice_cases (p : Params) (config : DWord) (m : Nat) (x : Module) (slice : List Word) :
    let a := checkWords config m 0 (x.table.zip slice) (wordLoopStart x)
    let o := bitsliceStep p config m (afterWords x a) (slice.take 32)
    (eventSignature p.esMagic slice = true ∧ validateSlice p config m x slice = .ok (esValidation m x)) ∨
    (eventSignature p.esMagic slice = false ∧ (x.variant = .standard ∨ a.ec ≠ 0) ∧
      validateSlice p config m x slice = .ok (wordsValidation config m x slice)) ∨
    (eventSignature p.esMagic slice = false ∧ x.variant ≠ .standard ∧ a.ec = 0 ∧ 32 ≤ slice.length ∧
      validateSlice p config m x slice =
        .ok { module := o.module, violation := o.violation,
              events := (wordsValidation config m x slice).events ++ o.events,
              verdict := (wordsValidation config m x slice).verdict }) ∨
    (x.variant ≠ .standard ∧ slice.length < 32 ∧
      validateSlice p config m x slice = .error (.bitsliceSliceShort m)) := by
  intro a o
  cases hes : eventSignature p.esMagic slice with
  | true => exact .inl ⟨rfl, by simp [validateSlice, hes]⟩
  | false =>
    by_cases hd : x.variant ≠ .standard ∧ a.ec = 0
    · by_cases hl : slice.length < 32
      · refine .inr (.inr (.inr ⟨hd.1, hl, ?_⟩))
        simp only [validateSlice, hes, Bool.false_eq_true, if_false]
        rw [if_pos hd, if_pos hl]
      · refine .inr (.inr (.inl ⟨rfl, hd.1, hd.2, by omega, ?_⟩))
        simp only [validateSlice, hes, Bool.false_eq_true, if_false]
        rw [if_pos hd, if_neg hl]
        rfl
    · refine .inr (.inl ⟨rfl, ?_, ?_⟩)
      · by_cases hv : x.variant = .standard
        · exact .inl hv
        · exact .inr fun hec => hd ⟨hv, hec⟩
      · simp only [validateSlice, hes, Bool.false_eq_true, if_false]
        rw [if_neg hd]
        rfl

/-- A validation that answers did so on a slice of the frame, and wrote what `withValidation` writes. -/
theorem validateModule_ok {m : Nat} {x : Module} {s t : State} {v : Verdict}
    (h : validateModule m x s = .ok (t, v)) :
    ∃ slice w, frameSlice s.frame (x.offset.toNat / 4) x.table.length = some slice ∧
      validateSlice s.params s.config m x slice = .ok w ∧ t = s.withValidation m w ∧ v = w.verdict := by
  simp only [validateModule] at h
  split at h
  · cases h
  · rename_i slice hs
    split at h
    · cases h
    · rename_i w hw
      cases h
      exact ⟨slice, w, hs, hw, rfl, rfl⟩

/-- t is s but for what validations write: modules, the two error totals and DIAG (R181, R265). -/
def OnlyValidated (s t : State) : Prop :=
  t = { s with modules := t.modules, errTotal := t.errTotal, bsErrTotal := t.bsErrTotal, diag := t.diag } ∧
    t.modules.length = s.modules.length

theorem onlyValidated_refl (s : State) : OnlyValidated s s := ⟨rfl, rfl⟩

theorem onlyValidated_trans {s t u : State} (h : OnlyValidated s t) (k : OnlyValidated t u) : OnlyValidated s u := by
  refine ⟨?_, k.2.trans h.2⟩
  rw [k.1, h.1]

theorem onlyValidated_withValidation (m : Nat) (v : Validation) (s : State) :
    OnlyValidated s (s.withValidation m v) := ⟨rfl, by simp⟩

/-- The module loop writes only what validations write, however it ends (R265). -/
theorem validateFrom_onlyValidated (k m : Nat) (s : State) :
    (∀ t, validateFrom k m s = .accepted t → OnlyValidated s t) ∧
    (∀ j t, validateFrom k m s = .corrupt j t → OnlyValidated s t) := by
  induction k generalizing m s with
  | zero => exact ⟨fun t h => by cases h; exact onlyValidated_refl s, fun j t h => by cases h⟩
  | succ k ih =>
    cases hx : s.modules[m]? with
    | none =>
      refine ⟨fun t h => ?_, fun j t h => ?_⟩ <;> simp only [validateFrom, hx] at h <;> cases h
      exact onlyValidated_refl s
    | some x =>
      cases hv : validateModule m x s with
      | error f => refine ⟨fun t h => ?_, fun j t h => ?_⟩ <;> simp [validateFrom, hx, hv] at h
      | ok r =>
        obtain ⟨u, v⟩ := r
        obtain ⟨_, w, _, _, hu, _⟩ := validateModule_ok hv
        have hsu : OnlyValidated s u := hu ▸ onlyValidated_withValidation m w s
        cases hok : v.ok with
        | true =>
          refine ⟨fun t h => ?_, fun j t h => ?_⟩ <;> simp only [validateFrom, hx, hv, hok, if_true] at h
          · exact onlyValidated_trans hsu ((ih (m + 1) u).1 t h)
          · exact onlyValidated_trans hsu ((ih (m + 1) u).2 j t h)
        | false =>
          refine ⟨fun t h => ?_, fun j t h => ?_⟩ <;>
            simp only [validateFrom, hx, hv, hok, Bool.false_eq_true, if_false] at h <;> cases h
          exact hsu

/-- Everything the frame's bytes can come to (R262, R263, R265). -/
theorem frameBody_cases (b : List Byte) (s : State) :
    (b.length < frameBytes s ∧ frameBody b s = .finished (s.endRun .endOfStream)) ∨
    (¬b.length < frameBytes s ∧
      ((∃ f, validateFrom s.modules.length 0 { s with frame := decodeFrame b } = .stopped f ∧
          frameBody b s = .stopped f) ∨
        (∃ m t, validateFrom s.modules.length 0 { s with frame := decodeFrame b } = .corrupt m t ∧
          frameBody b s = .finished (t.endCorrupt m)) ∨
        (∃ t, validateFrom s.modules.length 0 { s with frame := decodeFrame b } = .accepted t ∧
          frameBody b s = .finished (t.acceptFrame b)))) := by
  by_cases hb : b.length < frameBytes s
  · exact .inl ⟨hb, by simp [frameBody, hb]⟩
  · refine .inr ⟨hb, ?_⟩
    cases hv : validateFrom s.modules.length 0 { s with frame := decodeFrame b } with
    | stopped f => exact .inl ⟨f, rfl, by simp [frameBody, hb, hv]⟩
    | corrupt m t => exact .inr (.inl ⟨m, t, rfl, by simp [frameBody, hb, hv]⟩)
    | accepted t => exact .inr (.inr ⟨t, rfl, by simp [frameBody, hb, hv]⟩)

/-- Everything one frame's step can come to (R262). -/
theorem frameStep_cases (s : State) :
    (s.phase = .config ∧ s.modules.length = 0 ∧ frameStep s = .raised .cfgNoModules s) ∨
    (¬(s.phase = .config ∧ s.modules.length = 0) ∧
      ((streamRead (frameBytes s) s.input = .waits ∧ frameStep s = .waits) ∨
        (∃ st, streamRead (frameBytes s) s.input = .error st ∧
          frameStep s = .raised .inputUnreadable { s with phase := .running, input := st }) ∨
        (∃ b st, streamRead (frameBytes s) s.input = .bytes b st ∧
          frameStep s = frameBody b { s with phase := .running, input := st }))) := by
  by_cases hm : s.phase = .config ∧ s.modules.length = 0
  · exact .inl ⟨hm.1, hm.2, by simp [frameStep, hm]⟩
  · refine .inr ⟨hm, ?_⟩
    cases hr : streamRead (frameBytes s) s.input with
    | waits => exact .inl ⟨rfl, by rw [frameStep, if_neg hm, hr]⟩
    | error st => exact .inr (.inl ⟨st, rfl, by rw [frameStep, if_neg hm, hr]⟩)
    | bytes b st => exact .inr (.inr ⟨b, st, rfl, by rw [frameStep, if_neg hm, hr]⟩)

end Sys2Proof.Machine
end

