-- ==== Sys2Proof/Tests/Slice0.lean ====
section
/-! SUPPORT. The model's own tests: the well-formedness smoke tests, decoding of words written out by hand, small one-step
vectors of 95_test_vectors.md, and for every statement with hypotheses a concrete case that meets them. -/

namespace Sys2Proof.Tests

open Sys2Proof Sys2Proof.Machine Sys2Proof.Statement

/-! ## Helpers -/

/-- The arguments of 95_test_vectors.md's conventions, with E = 0xE5E5E5E5 and a progress event every 2 frames. -/
def testParams : Params := { esMagic := 0xE5E5E5E5, bsSeqPlane := .p5, progressPeriod := 2, sinkPresent := true }

/-- The reset state with those arguments. -/
def start : State := { State.reset with params := testParams }

/-- What a definition of one-digit site builds; `0=` never stands here. -/
def built (spad : Bool) (site : Nat) (banks : List BankLetter) : BuiltTable :=
  match buildDefinition spad (definitionText [BitVec.ofNat 8 (0x30 + site)] banks) with
  | .ok b => b
  | .error _ => { site := 0, table := [], variant := .standard }

/-- A new module at byte offset 0 with SPAD_MON on. -/
def fresh (site : Nat) (banks : List BankLetter) : Module := newModule 0 (built true site banks)

/-- `start` in a phase with modules. -/
def withModules (phase : Phase) (modules : List Module) : State := { start with phase := phase, modules := modules }

/-- A stream that ends after these bytes. -/
def stream (data : List Byte) : InputStream := { data := data, tail := .ended, pos := 0, reads := 0, failing := [] }

/-- The stream bytes of a frame (R73). -/
def streamBytes (frame : List Word) : List Byte :=
  frame.flatMap fun w => [w.extractLsb' 0 8, w.extractLsb' 8 8, w.extractLsb' 16 8, w.extractLsb' 24 8]

/-- One field of the next state, if there is one. -/
def view (f : State → DWord) (o : Host.Outcome State Fault Refusal) : Option DWord :=
  match o with
  | .next t => some (f t)
  | .fault _ => none
  | .refused _ => none

/-! ## Well-formedness refuses an ill-formed term for each check -/

theorem test_wf_refuses_short_ceiling : (Instr.setCeiling [5]).wellFormed = false := by decide
theorem test_wf_refuses_long_add_text : (Instr.addModule 2 [0x30, 0x3D, 0x53]).wellFormed = false := by decide
theorem test_wf_refuses_short_build_text : (Instr.build 4 [0x30, 0x3D, 0x53]).wellFormed = false := by decide
theorem test_wf_refuses_wide_frame : (Instr.validate 0 (List.replicate 10497 0)).wellFormed = false := by
  show decide ((List.replicate 10497 (0 : Word)).length ≤ maxFrameWords) = false
  rw [List.length_replicate]
  decide
theorem test_wf_refuses_31_lanes : (Instr.collect 5 .lsb (List.replicate 31 0)).wellFormed = false := by decide

/-! ## Decoding: words written out from the tables of R102 and R107 -/

theorem test_decode_reset : decode (.command 0b0000_0000_0000_0000_0000_0000_0000_0000 .none) = .ok .reset := by decide
theorem test_decode_set_config :
    decode (.command 0b0001_0000_0000_0000_0000_0000_0001_0011 .none) = .ok (.setConfig 0b10011) := by decide
theorem test_decode_set_ceiling :
    decode (.command 0b0010_0000_0000_0000_0000_0000_0000_0000 (.words [2, 0])) = .ok (.setCeiling [2, 0]) := by decide
theorem test_decode_add_module :
    decode (.command 0b0011_0000_0000_0000_0000_0000_0000_0011 (.bytes [0x32, 0x3D, 0x53])) =
      .ok (.addModule 3 [0x32, 0x3D, 0x53]) := by decide
theorem test_decode_build :
    decode (.command 0b0100_0000_0000_0000_0000_0000_0000_0011 (.bytes [0x32, 0x3D, 0x50])) =
      .ok (.build 3 [0x32, 0x3D, 0x50]) := by decide
theorem test_decode_validate :
    decode (.command 0b0101_0000_0000_0000_0000_0000_1000_0001 (.words [7])) = .ok (.validate 0x81 [7]) := by decide
theorem test_decode_collect :
    decode (.command 0b0110_0000_0000_0000_0000_0001_0000_0101 (.words [7])) = .ok (.collect 5 .msb [7]) := by decide
theorem test_decode_step : decode (.command 0b0111_0000_0000_0000_0000_0000_0000_0000 .none) = .ok .step := by decide
theorem test_decode_run : decode (.command 0b1000_0000_0000_0000_0000_0000_0000_0000 .none) = .ok .run := by decide
theorem test_decode_read_reg :
    decode (.command 0b1001_0000_0000_0000_0000_0001_0010_0100 .none) = .ok (.readReg 0x24 0x01) := by decide
theorem test_decode_bank_a : decode (.letter 0b0100_0001) = .ok .bankA := by decide
theorem test_decode_bank_b : decode (.letter 0b0100_0010) = .ok .bankB := by decide
theorem test_decode_bank_c : decode (.letter 0b0100_0011) = .ok .bankC := by decide
theorem test_decode_bank_d : decode (.letter 0b0100_0100) = .ok .bankD := by decide
theorem test_decode_bank_s : decode (.letter 0b0101_0011) = .ok .bankS := by decide
theorem test_decode_bank_p : decode (.letter 0b0101_0000) = .ok .bankP := by decide
theorem test_decode_bank_l : decode (.letter 0b0110_1100) = .ok .bankL := by decide
theorem test_decode_bank_m : decode (.letter 0b0110_1101) = .ok .bankM := by decide
/-- R103. -/
theorem test_decode_refuses_reserved_op : decode (.command 0xA0000000 .none) = .error .reservedOp := by decide
/-- R104, the row of COLLECT: bit 5 is reserved between BIT and ORIENT. -/
theorem test_decode_refuses_reserved_bit : decode (.command 0x60000025 (.words [7])) = .error .reservedBit := by decide
/-- R142: lower-case a..d and upper-case L and M are no letters. -/
theorem test_decode_refuses_other_letters :
    decode (.letter 0x61) = .error .illegalLetter ∧ decode (.letter 0x4C) = .error .illegalLetter := by decide
theorem test_table_word_of_a_command : decodeTableWord 32 0x60000101 = some (.collect 1 .msb (List.replicate 32 0)) := by
  decide
theorem test_table_word_of_a_letter : decodeTableWord 8 0x50 = some .bankP := by decide
/-- The word placed by `withFetchWord` is what the next step runs, from reset. -/
theorem test_fetch_word_is_run : view (fun t => t.config) (step (start.withFetchWord 32 0x1000001F)) = some 0x1F := by
  decide
theorem test_fetch_letter_is_run :
    view (fun t => BitVec.ofNat 64 t.layout.tail.length) (step (start.withFetchWord 8 0x53)) = some 8 := by decide

/-! ## One-step vectors of 95_test_vectors.md -/

/-- Section 2.12, the row of RESET. -/
theorem test_reset_clears_status :
    view statusWord (exec .reset { withModules .done [] with outcome := .endOfStream }) = some 0 := by decide
/-- Section 2.12: SET_CONFIG 0x03. -/
theorem test_set_config_gives_config : view (fun t => t.config) (exec (.setConfig 3) start) = some 0x03 := by decide
/-- Section 2.12: SET_CONFIG in RUNNING gives STATUS 0xC03. -/
theorem test_set_config_in_running :
    view statusWord (exec (.setConfig 3) (withModules .running [fresh 3 [.A, .S]])) = some 0xC03 := by decide
/-- R302: {hi, lo}. -/
theorem test_set_ceiling_order :
    view (fun t => t.ceiling) (exec (.setCeiling [2, 1]) start) = some 0x0000000100000002 := by decide
/-- Section 2.12: SET_CEILING with one word gives STATUS 0xB03. -/
theorem test_set_ceiling_short : view statusWord (exec (.setCeiling [5]) start) = some 0xB03 := by decide
/-- R158: after "1=ABCD", ADD_MODULE "2=S" gets byte offset 128. -/
theorem test_add_module_offset :
    view (fun t => (t.modules[1]?.map (fun x => x.offset)).getD 0)
      (exec (.addModule 3 [0x32, 0x3D, 0x53]) (withModules .config [fresh 1 [.A, .B, .C, .D]])) = some 128 := by decide
/-- Section 2.12: ADD_MODULE "7=A" gives STATUS 0x203. -/
theorem test_add_module_bad_site :
    view statusWord (exec (.addModule 3 [0x37, 0x3D, 0x41]) start) = some 0x203 := by decide
/-- V-L1-2: BUILD "1=ABCD" has tag word 0x03C at index 16. -/
theorem test_build_mirror :
    view (fun t => t.buildTag[16].zeroExtend 64) (exec (.build 6 [0x31, 0x3D, 0x41, 0x42, 0x43, 0x44]) start) =
      some 0x03C := by decide
/-- Program 5: "1=ABCDE" gives STATUS 0x303. -/
theorem test_build_bad_char :
    view statusWord (exec (.build 7 [0x31, 0x3D, 0x41, 0x42, 0x43, 0x44, 0x45]) start) = some 0x303 := by decide
/-- R180's example: a fresh "1=S" on 1 0 0 0 0 0 0 0. -/
theorem test_validate_first_counter :
    view (fun t => t.result) (exec (.validate 0 [1, 0, 0, 0, 0, 0, 0, 0]) (withModules .config [fresh 1 [.S]])) =
      some 0x100000000 := by decide
/-- Section 2.7, the last vector: LAST_COUNTER 0xFFFFFFFF, and the counter word repeats it. -/
theorem test_validate_repeated_counter :
    view (fun t => t.result) (exec (.validate 0 [0xFFFFFFFF, 0, 0, 0, 0, 0, 0, 0])
      (withModules .config [{ fresh 0 [.S] with lastCounter := 0xFFFFFFFF }])) = some 0x1 := by decide
/-- Section 2.9: w[0] = 0x20 with BIT 5, LSB-first. -/
theorem test_collect_lsb :
    view (fun t => t.result) (exec (.collect 5 .lsb (0x20 :: List.replicate 31 0)) start) = some 0x00000001 := by decide
/-- Section 2.9: w[31] = 0x80000000 with BIT 31, MSB-first. -/
theorem test_collect_msb :
    view (fun t => t.result) (exec (.collect 31 .msb (List.replicate 31 0 ++ [0x80000000])) start) = some 0x1 := by
  decide
/-- Frame n of section 2.11. -/
def frameOf (n : Word) : List Word := [0x60, 0x61, 0x62, 0x63, 0x64, 0x65, 0x66, 0x67, n, 0, 0, 0, 0, 0, 0, 0]
/-- Section 2.11: "3=AS", STEP on frame 1. -/
theorem test_step_accepts :
    view (fun t => t.byteCount) (exec .step { withModules .config [fresh 3 [.A, .S]] with
      input := stream (streamBytes (frameOf 1)) }) = some 64 := by decide
/-- Section 2.11: STEP with no module gives STATUS 0x803. -/
theorem test_step_no_module : view statusWord (exec .step start) = some 0x803 := by decide
/-- Section 2.11: RUN on an empty stream answers 0x6. -/
theorem test_run_empty_stream :
    view (fun t => t.result) (exec .run { withModules .config [fresh 3 [.A, .S]] with input := stream [] }) = some 0x6 := by
  decide
/-- R272 and R188 (a): RUN's first STEP ends the run CORRUPT where the first counter is 2. -/
theorem test_run_corrupt :
    view (fun t => t.result) (exec .run { withModules .config [fresh 3 [.A, .S]] with
      input := stream (streamBytes (frameOf 2)) }) = some 0xE := by decide
/-- R303's example: READ_REG 0x40 after ADD_MODULE "1=ABCD". -/
theorem test_read_reg_table :
    exec (.readReg 0x40 0) (withModules .config [fresh 1 [.A, .B, .C, .D]]) =
      .next (readOut 0x020 (withModules .config [fresh 1 [.A, .B, .C, .D]])) := by rfl
/-- Section 2.12: READ_REG 0x60 past a LEN of 32. -/
theorem test_read_reg_past_len :
    view statusWord (exec (.readReg 0x60 0) (withModules .config [fresh 1 [.A, .B, .C, .D]])) = some 0xB03 := by decide

/-- The bank-layout unit with site 1 and letters accepted. -/
def laying (banks : List BankLetter) : State := { start with layout := { Layout.idle with site := 1, banks := banks } }
/-- The number of entries a letter added to the table being built. -/
def entries (t : State) : DWord := BitVec.ofNat 64 (layoutTable t.layout).length
/-- The last entry of the table being built, as a tag word. -/
def lastEntry (t : State) : DWord := (((layoutTable t.layout).getLast?.map tagWord).getD 0).zeroExtend 64

/-- R146: the first letter's last word is channel 7. -/
theorem test_bank_a : view lastEntry (exec .bankA (laying [])) = some 0x27 := by decide
/-- R146: as the second letter, "BA" style, the channels are 8..15. -/
theorem test_bank_b : view lastEntry (exec .bankB (laying [.A])) = some 0x2F := by decide
/-- R146's example: in "1=AC", C has k = 1. -/
theorem test_bank_c : view lastEntry (exec .bankC (laying [.A])) = some 0x2F := by decide
/-- R143. -/
theorem test_bank_d_repeated : view statusWord (exec .bankD (laying [.D])) = some 0x403 := by decide
/-- Section 2.2's vector "006=A": leading zeros are allowed, so BUILD gives 8 entries. -/
theorem test_leading_zeros :
    view (fun t => t.result) (exec (.build 5 [0x30, 0x30, 0x36, 0x3D, 0x41]) start) = some 8 := by decide
/-- R150 with SPAD_MON = 1: the last entry is Scratchpad(6). -/
theorem test_bank_s : view lastEntry (exec .bankS (laying [])) = some 0x306 := by decide
/-- R151. -/
theorem test_bank_p : view lastEntry (exec .bankP (laying [])) = some 0x400 := by decide
/-- R152. -/
theorem test_bank_l : view entries (exec .bankL (laying [])) = some 0 := by decide
/-- R152. -/
theorem test_bank_m : view entries (exec .bankM (laying [])) = some 0 := by decide

/-! ## Cases that meet the hypotheses of each statement -/

/-- `start` with one command at the port. -/
def issued (phase : Phase) (cw : Word) (p : Payload) : State :=
  { start with phase := phase, fatalCode := if phase = .fatal then .cmdPhase else .noFault, queue := [.command cw p] }

/-- A module on which every decoded frame is good: "0=P". -/
def pmod : Module := fresh 0 [.P]

/-- A bitslice module, "0=ABCDl". -/
def sliced : Module := fresh 0 [.A, .B, .C, .D, .l]

/-- A module of the widest table, "1=ABCDPS". -/
def widest : Module := fresh 1 [.A, .B, .C, .D, .P, .S]

/-- "3=A" and "4=S", the second at byte offset 32 (section 2.11). -/
def twoModules : List Module := [fresh 3 [.A], { fresh 4 [.S] with offset := 32 }]

/-- `twoModules` in CONFIG with a stream. -/
def twoModulesOn (data : List Byte) : State := { withModules .config twoModules with input := stream data }

theorem test_meets_DecodeEncodeRoundTrip :
    (Instr.setCeiling [2, 0]).wellFormed = true ∧ (Instr.addModule 0 []).wellFormed = true ∧
    (Instr.build 1 [0x31]).wellFormed = true ∧ (Instr.validate 255 []).wellFormed = true ∧
    (Instr.collect 31 .msb (List.replicate 32 1)).wellFormed = true ∧ (Instr.readReg 0xFF 0xFF).wellFormed = true ∧
    Instr.bankM.wellFormed = true := by decide

theorem test_meets_EncodeDecodeGivesTheWord :
    decode (.command 0x1000001F .none) = .ok (.setConfig 0x1F) ∧ decode (.letter 0x6D) = .ok .bankM := by decide

theorem test_meets_StepRunsDecodedInstruction_command :
    (issued .config 0x1000001F .none).layout.text = [] ∧
    (issued .config 0x1000001F .none).queue = [.command 0x1000001F .none] ∧
    decode (.command 0x1000001F .none) = .ok (.setConfig 0x1F) ∧ (Instr.setConfig 0x1F).wellFormed = true := by decide

theorem test_meets_StepRunsDecodedInstruction_letter :
    (start.withFetchWord 8 0x53).layout.text = [0x53] ∧ decode (.letter 0x53) = .ok .bankS ∧
    Instr.bankS.wellFormed = true := by decide

theorem test_meets_IdleKeepsState : start.layout.text = [] ∧ start.queue = [] := by decide

theorem test_meets_BindingStartsTheStream :
    { start with queue := [.bindStream (stream [1])] }.layout.text = [] ∧
    { start with queue := [.bindStream (stream [1])] }.queue = [.bindStream (stream [1])] := by decide

theorem test_meets_ReservedOpRaisesIllegal :
    (issued .done 0xA0000000 .none).queue = [.command 0xA0000000 .none] ∧
    (issued .done 0xA0000000 .none).layout.text = [] ∧
    0xA ≤ ((0xA0000000 : Word).extractLsb' 28 4).toNat ∧ 0xA ≤ ((0xFFFFFFFF : Word).extractLsb' 28 4).toNat := by decide

/-- The lowest and the highest reserved bit, and a payload one unit short and one too long. -/
theorem test_meets_ReservedBitOrLengthRaisesIllegal :
    (issued .config 0x10000020 .none).layout.text = [] ∧
    (issued .config 0x10000020 .none).queue = [.command 0x10000020 .none] ∧
    (0x1, 0xFFFFFFE0, 0x10000000) ∈ rows ∧
    ((0x10000020 : Word).extractLsb' 28 4).toNat = 0x1 ∧ (0x10000020 : Word) &&& 0xFFFFFFE0 ≠ 0x10000000 ∧
    ((0x18000000 : Word).extractLsb' 28 4).toNat = 0x1 ∧ (0x18000000 : Word) &&& 0xFFFFFFE0 ≠ 0x10000000 ∧
    (0x2, 0xFFFFFFFF, 0x20000000) ∈ rows ∧
    payloadLength (.words [5]) ≠ demandedLength start 0x20000000 ∧
    payloadLength (.words [5, 6, 7]) ≠ demandedLength start 0x20000000 := by decide

theorem test_meets_OneResponsePerCommand :
    isLetter (.readReg 0x01 0) = false ∧
    exec (.readReg 0x01 0) (issued .fatal 0x90000001 .none) =
      .next (readOut 0x02 (issued .fatal 0x90000001 .none)) := ⟨rfl, rfl⟩

theorem test_meets_SetConfigWritesFlags : start.phase = .config := rfl

theorem test_meets_SetCeilingWritesCeiling : (withModules .config [pmod]).phase = .config := rfl

theorem test_meets_ReadRegAnswersGlobalRegisters :
    ((0x00 : Byte), statusWord start) ∈ [((0x00 : Byte), statusWord start), (0x0E, start.buildLen)] := by decide

/-- The first and the last register of each of the three ranges. -/
theorem test_meets_ReadRegAnswersModuleRegisters :
    (withModules .done [pmod, widest]).modules[(1 : Byte).toNat]? = some widest ∧
    widest.table[0]? = some (.id 0x20) ∧ widest.table[40]? = some (.scratchpad 6) := by decide

theorem test_meets_ReadRegAnswersBuildBuffer :
    0 < { start with buildLen := 41 }.buildLen.toNat ∧ 40 < { start with buildLen := 41 }.buildLen.toNat := by decide

/-- Each clause at the ends of its range, on a state with one module of one word and an empty build buffer. -/
theorem test_meets_UnreadableRegisterIsIllegal :
    ((0x00 : Byte).toNat < 0x20 ∧ (1 : Byte) ≠ 0) ∧ (0x0F ≤ (0x0F : Byte).toNat ∧ 0x0F ≤ (0x1F : Byte).toNat) ∧
    (0x20 ≤ (0x20 : Byte).toNat ∧ (withModules .config [pmod]).modules.length ≤ (1 : Byte).toNat) ∧
    (0x2B ≤ (0x2B : Byte).toNat ∧ (0x2F : Byte).toNat ≤ 0x2F) ∧ (0x37 ≤ (0x37 : Byte).toNat ∧ (0x3F : Byte).toNat ≤ 0x3F) ∧
    (0x69 ≤ (0x69 : Byte).toNat ∧ (0x7F : Byte).toNat < 0x80) ∧
    ((withModules .config [pmod]).modules[(0 : Byte).toNat]? = some pmod ∧ pmod.table.length ≤ (0x41 : Byte).toNat - 0x40) ∧
    (0xA9 ≤ (0xA9 : Byte).toNat ∧ 0xA9 ≤ (0xFF : Byte).toNat) ∧
    (withModules .config [pmod]).buildLen.toNat ≤ (0x80 : Byte).toNat - 0x80 := by decide

theorem test_meets_IllegalPhaseRaisesPhaseFault :
    isLetter .step = false ∧ (withModules .done [pmod]).phase ≠ .fatal ∧ shapeFits (withModules .done [pmod]) .step = true ∧
    legalIn .step (withModules .done [pmod]).phase = false := by decide

theorem test_meets_WrongShapeRaisesIllegalFirst :
    (withModules .running [pmod]).phase ≠ .fatal ∧
    shapeFits (withModules .running [pmod]) (.validate 0 [1, 2]) = false ∧
    shapeFits (withModules .running [pmod]) (.validate 1 [1]) = false ∧
    shapeFits (withModules .running [pmod]) (.setCeiling [5]) = false := by decide

theorem test_meets_FatalRefusesAllButResetAndRead :
    (issued .fatal 0x7 .none).phase = .fatal ∧ isLetter .step = false ∧ Instr.step ≠ .reset ∧
    readRegister (issued .fatal 0x9000000F .none) 0x0F 0 = none ∧
    decode (.command 0x7 .none) = .error .reservedBit ∧ (issued .fatal 0x7 .none).layout.text = [] ∧
    (issued .fatal 0x7 .none).queue = [.command 0x7 .none] := by decide

theorem test_meets_PhaseChangesOnlyAsTheRulesAllow :
    exec .step start = .next (faulted .cfgNoModules start) := rfl

/-- The lowest site, the highest one with leading zeros (R141), and the longest bank text. -/
theorem test_meets_BuildFollowsIndexRules :
    spellsSite [0x30] 0 ∧ spellsSite [0x30, 0x30, 0x36] 6 ∧ [BankLetter.P].Nodup ∧ wholeTextOk [.P] ∧
    [BankLetter.S, .D, .A, .P, .C, .B, .m].Nodup ∧ wholeTextOk [.S, .D, .A, .P, .C, .B, .m] := by
  unfold wholeTextOk spellsSite
  refine ⟨by decide, by decide, by decide, ⟨by decide, by decide, by decide⟩, by decide, by decide, by decide, by decide⟩

theorem test_meets_TableLengthFormula :
    (0x3D : Byte) ∉ [(0x31 : Byte)] ∧
    buildDefinition true ([0x31] ++ 0x3D :: bankText [.P]) =
      .ok { site := 1, table := [.pmod], variant := .standard } := by decide

/-- A case for each of the eight clauses, in their order; 7 is the lowest bad site. -/
theorem test_meets_DefinitionFaultsInOrder :
    (0x3D : Byte) ∉ ([] : List Byte) ∧
    ((0x3D : Byte) ∉ [(0x2F : Byte)] ∧ ∃ b ∈ [(0x2F : Byte)], b.toNat < 0x30 ∨ 0x39 < b.toNat) ∧
    ((∀ b ∈ [(0x30 : Byte), 0x37], 0x30 ≤ b.toNat ∧ b.toNat ≤ 0x39) ∧
      6 < siteValue [(0x30 : Byte), 0x37]) ∧
    ([BankLetter.A].Nodup ∧ ∀ c ∈ [BankLetter.A, .B, .C, .D, .S, .P, .l, .m], letterByte c ≠ 0x61) ∧
    ([BankLetter.A].Nodup ∧ BankLetter.A ∈ [BankLetter.A]) ∧
    ([BankLetter.l, .m].Nodup ∧ BankLetter.l ∈ [BankLetter.l, .m] ∧ BankLetter.m ∈ [BankLetter.l, .m]) ∧
    ([BankLetter.l] = [] ∨ [BankLetter.l] = [.l] ∨ [BankLetter.l] = [.m]) ∧
    ([BankLetter.A, .B, .C, .l].Nodup ∧ specLength [.A, .B, .C, .l] ≠ 0 ∧ BankLetter.D ∉ [BankLetter.A, .B, .C, .l] ∧
      BankLetter.l ∈ [BankLetter.A, .B, .C, .l] ∧ BankLetter.m ∉ [BankLetter.A, .B, .C, .l]) := by decide

theorem test_meets_BuildFillsBuildBuffer :
    start.phase ≠ .fatal ∧ [(0x31 : Byte), 0x3D, 0x50].length = (3 : Byte).toNat ∧
    buildDefinition (spadMon start.config) [0x31, 0x3D, 0x50] =
      .ok { site := 1, table := [.pmod], variant := .standard } ∧
    buildDefinition (spadMon start.config) [0x31, 0x3D, 0x58] = .error .cfgBadChar := by decide

theorem test_meets_AddModuleAppendsModule :
    start.phase = .config ∧ [(0x31 : Byte), 0x3D, 0x50].length = (3 : Byte).toNat ∧ start.modules.length ≠ 256 ∧
    buildDefinition (start.config.getLsbD 1) [0x31, 0x3D, 0x50] =
      .ok { site := 1, table := [.pmod], variant := .standard } := by decide

theorem test_meets_AddModuleFaultsInOrder :
    (withModules .config (List.replicate 256 pmod)).phase = .config ∧
    [(0x31 : Byte), 0x3D, 0x58].length = (3 : Byte).toNat ∧
    (withModules .config (List.replicate 256 pmod)).modules.length = 256 ∧
    (start.modules.length ≠ 256 ∧ buildDefinition (spadMon start.config) [0x31, 0x3D, 0x58] = .error .cfgBadChar) :=
  ⟨rfl, rfl, List.length_replicate, by decide⟩

theorem test_meets_ChannelLettersContribute :
    (Instr.bankD, BankLetter.D) ∈ [(Instr.bankA, BankLetter.A), (.bankB, .B), (.bankC, .C), (.bankD, .D)] ∧
    (laying [.A, .S, .B, .C]).phase ≠ .fatal ∧ BankLetter.D ∉ (laying [.A, .S, .B, .C]).layout.banks ∧
    3 = (channelLetters (laying [.A, .S, .B, .C]).layout.banks).length := by decide

theorem test_meets_OtherLettersContribute :
    (Instr.bankS, BankLetter.S) ∈ [(Instr.bankS, BankLetter.S), (.bankP, .P), (.bankL, .l), (.bankM, .m)] ∧
    (laying [.A]).phase ≠ .fatal ∧ BankLetter.S ∉ (laying [.A]).layout.banks := by decide

theorem test_meets_RepeatedLetterIsFatal :
    (Instr.bankA, BankLetter.A) ∈ [(Instr.bankA, BankLetter.A), (.bankM, .m)] ∧ (laying [.A]).phase ≠ .fatal ∧
    BankLetter.A ∈ (laying [.A]).layout.banks := by decide

theorem test_meets_LettersOneByOneBuildTheSameTable :
    { start with layout := { Layout.idle with site := 1, text := [0x50, 0x6C] } }.phase ≠ .fatal ∧
    scanBanks (spadMon start.config) [0x50, 0x6C] { Layout.idle with site := 1 } =
      .ok { Layout.idle with site := 1, banks := [.P, .l], tail := [.pmod] } := by decide

/-- A slice of exactly four words is not at hand; "1=S" has eight. -/
theorem test_meets_EventSignatureSkipsSlice :
    (withModules .config [fresh 1 [.S]]).phase = .config ∧
    (List.replicate 4 0xE5E5E5E5 ++ List.replicate 4 0).length = frameWords (withModules .config [fresh 1 [.S]]) ∧
    frameSlice (List.replicate 4 0xE5E5E5E5 ++ List.replicate 4 0) 0 8 =
      some (List.replicate 4 0xE5E5E5E5 ++ List.replicate 4 0) ∧
    signature testParams.esMagic (List.replicate 4 0xE5E5E5E5 ++ List.replicate 4 0) := by
  refine ⟨rfl, rfl, rfl, by decide, ?_⟩
  decide

/-- VALIDATE 0 reaches the words of "0=PS" with the frame of section 2.8: a failing counter and a changed slot. This is
the case for ValidateCountsFailingWords, ValidateUpdatesContinuityState and ValidateEmitsWordAndSpadEvents. -/
theorem test_meets_ReachesWords_standard :
    ReachesWords (withModules .config [fresh 0 [.P, .S]]) 0 [0x77, 3, 1, 0, 0, 0, 0, 0, 0] (fresh 0 [.P, .S])
      [0x77, 3, 1, 0, 0, 0, 0, 0, 0] where
  phase := rfl
  length := rfl
  module := rfl
  slice_eq := rfl
  unsigned := fun h => absurd (h.2 0 (by decide)) (by decide)
  one_counter := by decide
  one_slot := by decide
  bitslice_len := fun h => absurd rfl h

/-- The frame of section 2.10 with every plane bit 0, which passes under the default mask for site 0. -/
def zeroPlanes : List Word :=
  [0x00, 0x01, 0x02, 0x03, 0x08, 0x09, 0x0A, 0x0B, 0x10, 0x11, 0x12, 0x13, 0x18, 0x19, 0x1A, 0x1B,
    0x1C, 0x1D, 0x1E, 0x1F, 0x14, 0x15, 0x16, 0x17, 0x0C, 0x0D, 0x0E, 0x0F, 0x04, 0x05, 0x06, 0x07]

/-- The bitslice case: every word passes, and a primed history of 5 makes seq 0 a violation. -/
theorem test_meets_BitsliceFrameIsDecodedAndChecked :
    ReachesWords (withModules .config [{ sliced with bsPrimed := true, bsSeq := 5 }]) 0 zeroPlanes
      { sliced with bsPrimed := true, bsSeq := 5 } zeroPlanes ∧
    sliced.variant ≠ .standard ∧ errorCount start.config { sliced with bsPrimed := true, bsSeq := 5 } zeroPlanes = 0 :=
  ⟨{ phase := rfl
     length := rfl
     module := rfl
     slice_eq := rfl
     unsigned := fun h => absurd (h.2 0 (by decide)) (by decide)
     one_counter := by decide
     one_slot := by decide
     bitslice_len := fun _ => by decide }, by decide, by decide⟩

/-- The case of ValidateEmitsWordAndSpadEvents in which a bitslice module's word fails. -/
theorem test_meets_failing_bitslice_events :
    ReachesWords (withModules .config [sliced]) 0 (0x21 :: zeroPlanes.tail) sliced (0x21 :: zeroPlanes.tail) ∧
    errorCount start.config sliced (0x21 :: zeroPlanes.tail) ≠ 0 :=
  ⟨{ phase := rfl
     length := rfl
     module := rfl
     slice_eq := rfl
     unsigned := fun h => absurd (h.2 0 (by decide)) (by decide)
     one_counter := by decide
     one_slot := by decide
     bitslice_len := fun _ => by decide }, by decide⟩

/-- The clauses of ValidateUpdatesContinuityState: a counter word, a Scratchpad word, and a module with neither. -/
theorem test_meets_ValidateUpdatesContinuityState :
    (Tag.sampleCounter, (3 : Word)) ∈ (fresh 0 [.P, .S]).table.zip [0x77, 3, 1, 0, 0, 0, 0, 0, 0] ∧
    (Tag.scratchpad 6, (0 : Word)) ∈ (fresh 0 [.P, .S]).table.zip [0x77, 3, 1, 0, 0, 0, 0, 0, 0] ∧
    Tag.sampleCounter ∉ sliced.table ∧ Tag.scratchpad 0 ∉ sliced.table ∧ (fresh 0 [.P, .S]).variant = .standard := by
  decide

theorem test_meets_ModuleStaticPartIsFixed :
    Instr.setConfig 3 ≠ .reset ∧
    exec (.setConfig 3) (withModules .config [pmod]) =
      .next (answered 3 { withModules .config [pmod] with config := 3 }) ∧
    (withModules .config [pmod]).modules[0]? = some pmod := ⟨by decide, rfl, rfl⟩

/-- Also the case for CollectGathersOneBitPerLane, with the first and the last lane. -/
theorem test_meets_CollectAnswersTheGather :
    (withModules .done []).phase ≠ .fatal ∧ (List.replicate 32 (0x20 : Word)).length = 32 ∧
    0 < (List.replicate 32 (0x20 : Word)).length ∧ 31 < (List.replicate 32 (0x20 : Word)).length := by decide

/-- A read of no byte, and one of a byte less than a frame. -/
theorem test_meets_ShortReadEndsTheRun :
    canStep (withModules .config [pmod]) ∧
    (streamRead (frameBytes (withModules .config [pmod])) (stream []) =
      .bytes [] { stream [] with reads := 1 }) ∧
    (streamRead (frameBytes (withModules .config [pmod])) (stream [1, 2, 3]) =
      .bytes [1, 2, 3] { stream [1, 2, 3] with pos := 3, reads := 1 }) ∧
    [(1 : Byte), 2, 3].length < frameBytes (withModules .config [pmod]) :=
  ⟨.inr ⟨rfl, by decide⟩, rfl, rfl, by decide⟩

/-- A whole frame for one Pmod module. -/
theorem test_meets_GoodFrameIsAccepted :
    canStep (withModules .running [pmod]) ∧
    streamRead (frameBytes (withModules .running [pmod])) (stream [1, 2, 3, 4]) =
      .bytes [1, 2, 3, 4] { stream [1, 2, 3, 4] with pos := 4, reads := 1 } ∧
    [(1 : Byte), 2, 3, 4].length = frameBytes (withModules .running [pmod]) ∧
    (∀ m x, (withModules .running [pmod]).modules[m]? = some x →
      ∃ v, moduleResult (withModules .running [pmod]) (decodeFrame [1, 2, 3, 4]) m x = some v ∧ v.verdict.ok = true) := by
  refine ⟨.inl rfl, rfl, rfl, fun m x h => ?_⟩
  match m, h with
  | 0, h => obtain rfl : pmod = x := by simpa [withModules] using h
            exact ⟨_, rfl, rfl⟩
  | k + 1, h => simp [withModules] at h

/-- Section 2.11's second table: the second module fails on counter 3, the first passes. -/
theorem test_meets_FirstBadModuleEndsTheRun :
    canStep (twoModulesOn (streamBytes (frameOf 3))) ∧
    streamRead (frameBytes (twoModulesOn (streamBytes (frameOf 3)))) (stream (streamBytes (frameOf 3))) =
      .bytes (streamBytes (frameOf 3)) { stream (streamBytes (frameOf 3)) with pos := 64, reads := 1 } ∧
    (streamBytes (frameOf 3)).length = frameBytes (twoModulesOn (streamBytes (frameOf 3))) ∧
    (moduleResult (twoModulesOn []) (decodeFrame (streamBytes (frameOf 3))) 0 (fresh 3 [.A])).map
      (fun v => v.verdict.ok) = some true ∧
    (moduleResult (twoModulesOn []) (decodeFrame (streamBytes (frameOf 3))) 1
      { fresh 4 [.S] with offset := 32 }).map (fun v => v.verdict.ok) = some false :=
  ⟨.inr ⟨rfl, by decide⟩, rfl, rfl, by decide, by decide⟩

theorem test_meets_ReadErrorIsFatal :
    canStep (withModules .running [pmod]) ∧
    streamRead (frameBytes (withModules .running [pmod])) { stream [1, 2, 3, 4] with failing := [0] } =
      .error { stream [1, 2, 3, 4] with failing := [0], reads := 1 } := ⟨.inl rfl, rfl⟩

theorem test_meets_NoModulesIsFatal : start.phase = .config ∧ start.modules = [] := ⟨rfl, rfl⟩

/-- Both clauses of RunIsRepeatedStep: a STEP that leaves RUNNING and one that does not. -/
theorem test_meets_RunIsRepeatedStep :
    view (fun t => BitVec.ofNat 64 (phaseValue t.phase))
      (exec .step { withModules .config [pmod] with input := stream [1, 2, 3, 4] }) = some 1 ∧
    view (fun t => BitVec.ofNat 64 (phaseValue t.phase)) (exec .step { withModules .config [pmod] with input := stream [] }) =
      some 2 := by decide

theorem test_meets_StalledReadNeverCompletes :
    { issued .config 0x80000000 .none with modules := [pmod] }.layout.text = [] ∧
    canStep { issued .config 0x80000000 .none with modules := [pmod] } ∧
    InputStream.unbound.tail = .stalls ∧ InputStream.unbound.reads ∉ InputStream.unbound.failing ∧
    0 < frameBytes { issued .config 0x80000000 .none with modules := [pmod] } ∧
    InputStream.unbound.data.length <
      InputStream.unbound.pos + frameBytes { issued .config 0x80000000 .none with modules := [pmod] } :=
  ⟨rfl, .inr ⟨rfl, by decide⟩, rfl, by decide, by decide, by decide⟩

theorem test_meets_StepFillsFrameBuffer :
    view (fun t => ((t.frame[0]?).getD 0).zeroExtend 64)
      (exec .step { withModules .running [pmod] with input := stream [1, 2, 3, 4] }) = some 0x04030201 := by decide

/-- Each clause of StreamReadGivesTheNextBytes: a failing read; a read past the end and one that ends exactly at it; a read
one byte short of a stalled stream; a read that takes the last byte and then the cycle. -/
theorem test_meets_StreamReadGivesTheNextBytes :
    { stream [1] with failing := [0] }.reads ∈ { stream [1] with failing := [0] }.failing ∧
    (stream [1, 2]).reads ∉ (stream [1, 2]).failing ∧ (stream [1, 2]).tail = .ended ∧
    { stream [1, 2] with tail := .stalls }.pos + 2 ≤ { stream [1, 2] with tail := .stalls }.data.length ∧
    { stream [1, 2] with tail := .stalls }.data.length < { stream [1, 2] with tail := .stalls }.pos + 3 ∧
    { stream [1, 2] with tail := .repeats [3], pos := 1 }.tail = .repeats [3] ∧ [(3 : Byte)] ≠ [] := by decide

/-- A run in which the host has read one frame: POS and BYTE_COUNT are both 4. -/
theorem test_meets_ReadPositionEqualsByteCount :
    BitVec.ofNat 64 ({ stream [1, 2, 3, 4] with pos := 4 } : InputStream).pos =
      { withModules .running [pmod] with byteCount := 4 }.byteCount ∧
    exec (.readReg 0x01 0) { withModules .running [pmod] with byteCount := 4, input := { stream [1, 2, 3, 4] with pos := 4 } } =
      .next (readOut 0x02
        { withModules .running [pmod] with byteCount := 4, input := { stream [1, 2, 3, 4] with pos := 4 } }) ∧
    Instr.readReg 0x01 0 ≠ .reset := ⟨by decide, rfl, by decide⟩

/-- The remaining clauses of OnlyTheNamedCommandsWrite: a writer of each kind, a letter, and a fault. -/
theorem test_meets_OnlyTheNamedCommandsWrite :
    exec .bankL start =
      .next { start with layout := { start.layout with banks := [.l] } } ∧ isLetter .bankL = true ∧
    exec .step start = .next (faulted .cfgNoModules start) ∧ (faulted .cfgNoModules start).phase = .fatal ∧
    validates .step = true ∧ Instr.step ≠ .reset := ⟨rfl, rfl, rfl, rfl, rfl, by decide⟩

/-- READ_REG in FATAL is a step of which the statements over all steps speak: ReadPositionOnlyAdvances,
OnlyTheNamedCommandsWrite, PortsOnlyAppend and DiagnosticsAreNeverRead. -/
theorem test_meets_statements_over_steps :
    exec (.readReg 0x01 0) (issued .fatal 0x90000001 .none) = .next (readOut 0x02 (issued .fatal 0x90000001 .none)) ∧
    step (issued .fatal 0x90000001 .none) = .next (readOut 0x02 (issued .fatal 0x90000001 .none)) ∧
    Instr.readReg 0x01 0 ≠ .reset ∧ validates (.readReg 0x01 0) = false ∧
    { start with params := { testParams with sinkPresent := false } }.params.sinkPresent = false :=
  ⟨rfl, rfl, by decide, rfl, rfl⟩

/-- A module of one Pmod word has the invariant of a module. -/
theorem pmod_inv : ModuleInv pmod where
  site_le := by decide
  len_pos := by decide
  len_le := by decide
  ids_le := fun t h => by simp [show pmod.table = [.pmod] from rfl] at h
  bitslice_len := fun h => absurd rfl h
  bitslice_ids := fun h => absurd rfl h
  one_counter := by decide
  one_slot := by decide
  counter_zero := fun _ => rfl
  slot_zero := by decide
  standard_unprimed := fun _ => rfl
  unprimed_zero := fun _ => ⟨rfl, rfl, rfl, rfl⟩
  errs_le := by decide

theorem empty_build_buffer : ∀ k : Fin 41, State.reset.buildTag[k] = 0 := by decide

/-- A run that has not accepted a frame yet has the invariant, and a RUN at its port answers: the case for
StepKeepsInvariant and InvariantRulesOutStops. -/
theorem test_meets_StepKeepsInvariant :
    Inv { withModules .running [pmod] with queue := [.command 0x80000000 .none] } ∧
    step { withModules .running [pmod] with queue := [.command 0x80000000 .none] } =
      .next { withModules .running [pmod] with queue := [.command 0x80000000 .none] } := by
  refine ⟨?_, rfl⟩
  exact
    { modules_le := by decide
      modules_inv := fun x h => by
        obtain rfl : x = pmod := by simpa [withModules] using h
        exact pmod_inv
      offsets_tile := fun m x h => by
        match m, h with
        | 0, h => obtain rfl : pmod = x := by simpa [withModules] using h
                  rfl
        | k + 1, h => simp [withModules] at h
      config_reserved := by decide
      fatal_code := by decide
      no_outcome := fun _ => rfl
      done_outcome := fun h => absurd h (by decide)
      run_has_module := fun _ => by decide
      config_counts := fun _ => rfl
      byte_count := by decide
      record_zero := fun _ => ⟨rfl, rfl, rfl, rfl⟩
      record_corrupt := fun h => absurd h (by decide)
      bs_total := by decide
      build_len := by decide
      build_rest := fun i h _ => empty_build_buffer ⟨i, h⟩ }

end Sys2Proof.Tests
end

section
/-! The command port: what answers a command, what leaves the port alone, and the step that runs a decoded
instruction. -/

namespace Sys2Proof.Machine

/-- The response list and the command port are as they were. -/
def PortKept (s t : State) : Prop := t.responses = s.responses ∧ t.queue = s.queue

/-- One response was given, and the command at the head of the port is gone (R100). -/
def AnsweredOnce (s t : State) : Prop := ∃ r, t.responses = s.responses ++ [r] ∧ t.queue = s.queue.drop 1

theorem PortKept.refl (s : State) : PortKept s s := ⟨rfl, rfl⟩

theorem PortKept.trans {s t u : State} (h : PortKept s t) (k : PortKept t u) : PortKept s u :=
  ⟨k.1.trans h.1, k.2.trans h.2⟩

/-! ### The four ways to answer -/

theorem PortKept.respond {s t : State} (h : PortKept s t) (r : Response) : AnsweredOnce s (t.respond r) :=
  ⟨r, by simp [h.1], by simp [h.2]⟩

theorem PortKept.answer {s t : State} (h : PortKept s t) (v : DWord) : AnsweredOnce s (t.answer v) :=
  ⟨.ok v, by simp [h.1], by simp [h.2]⟩

theorem PortKept.raise {s t : State} (h : PortKept s t) (code : FatalCode) : AnsweredOnce s (t.raise code) :=
  ⟨.fault code, by simp [h.1], by simp [h.2]⟩

theorem answeredOnce_refuse (s : State) : AnsweredOnce s s.refuse := ⟨.refused, by simp, by simp⟩

theorem answeredOnce_illegal (s : State) : AnsweredOnce s s.illegal := by
  rcases illegal_cases s with ⟨_, h⟩ | ⟨_, h⟩ <;> rw [h]
  · exact answeredOnce_refuse s
  · exact (PortKept.refl s).raise .cmdIllegal

/-- The checks of R335 answer the command themselves, or leave it to the body. -/
theorem guarded_next {ok : Bool} {legal : List Phase} {s t : State} {body : Host.Outcome State Fault Refusal}
    (h : guarded ok legal s body = .next t) : AnsweredOnce s t ∨ body = .next t := by
  rcases @guarded_cases ok legal s body with
    ⟨_, hg⟩ | ⟨_, _, hg⟩ | ⟨_, _, _, hg⟩ | ⟨_, _, _, hg⟩ <;> rw [hg] at h
  · cases h
    exact .inl (answeredOnce_refuse s)
  · cases h
    exact .inl ((PortKept.refl s).raise .cmdIllegal)
  · cases h
    exact .inl ((PortKept.refl s).raise .cmdPhase)
  · exact .inr h

/-- The form of `guarded_next` for a command whose body always answers. -/
theorem guarded_answeredOnce {ok : Bool} {legal : List Phase} {s t : State}
    {body : Host.Outcome State Fault Refusal} (h : guarded ok legal s body = .next t)
    (hbody : body = .next t → AnsweredOnce s t) : AnsweredOnce s t :=
  (guarded_next h).elim id hbody

/-! ### The frame step leaves the port alone -/

theorem OnlyValidated.portKept {s t : State} (h : OnlyValidated s t) : PortKept s t := by
  obtain ⟨ht, _⟩ := h
  rw [ht]
  exact ⟨rfl, rfl⟩

theorem portKept_endRun (o : RunOutcome) (s : State) : PortKept s (s.endRun o) := ⟨rfl, rfl⟩

theorem portKept_endCorrupt (m : Nat) (s : State) : PortKept s (s.endCorrupt m) := ⟨rfl, rfl⟩

theorem portKept_checkCeiling (s : State) : PortKept s s.checkCeiling := by
  unfold State.checkCeiling
  split
  · exact portKept_endRun .completed s
  · exact PortKept.refl s

theorem portKept_acceptFrame (b : List Byte) (s : State) : PortKept s (s.acceptFrame b) :=
  PortKept.trans ⟨rfl, rfl⟩ (portKept_checkCeiling _)

theorem frameBody_finished_portKept {b : List Byte} {s t : State} (h : frameBody b s = .finished t) :
    PortKept s t := by
  have validated := validateFrom_onlyValidated s.modules.length 0 { s with frame := decodeFrame b }
  rcases frameBody_cases b s with ⟨_, hb⟩ | ⟨_, ⟨_, _, hb⟩ | ⟨m, u, hv, hb⟩ | ⟨u, hv, hb⟩⟩ <;>
    rw [hb] at h <;> cases h
  · exact portKept_endRun .endOfStream s
  · exact (validated.2 m u hv).portKept.trans (portKept_endCorrupt m u)
  · exact (validated.1 u hv).portKept.trans (portKept_acceptFrame b u)

theorem frameBody_ne_raised (b : List Byte) (s t : State) (code : FatalCode) : frameBody b s ≠ .raised code t := by
  rcases frameBody_cases b s with ⟨_, h⟩ | ⟨_, ⟨_, _, h⟩ | ⟨_, _, _, h⟩ | ⟨_, _, h⟩⟩ <;> simp [h]

theorem frameStep_finished_portKept {s t : State} (h : frameStep s = .finished t) : PortKept s t := by
  rcases frameStep_cases s with ⟨_, _, hs⟩ | ⟨_, ⟨_, hs⟩ | ⟨_, _, hs⟩ | ⟨b, st, _, hs⟩⟩ <;> rw [hs] at h
  · cases h
  · cases h
  · cases h
  · have hread : PortKept s { s with phase := .running, input := st } := ⟨rfl, rfl⟩
    exact hread.trans (frameBody_finished_portKept h)

theorem frameStep_raised_portKept {s t : State} {code : FatalCode} (h : frameStep s = .raised code t) :
    PortKept s t := by
  rcases frameStep_cases s with ⟨_, _, hs⟩ | ⟨_, ⟨_, hs⟩ | ⟨_, _, hs⟩ | ⟨b, st, _, hs⟩⟩ <;> rw [hs] at h
  · cases h
    exact PortKept.refl s
  · cases h
  · cases h
    exact ⟨rfl, rfl⟩
  · exact absurd h (frameBody_ne_raised b _ t code)

/-! ### Every command answers once; STEP and RUN may wait, and RUN may go on -/

theorem execReset_answeredOnce {s t : State} (h : execReset s = .next t) : AnsweredOnce s t := by
  cases h
  have hregs : PortKept s s.resetRegisters := ⟨rfl, rfl⟩
  exact hregs.answer 0

theorem execSetConfig_answeredOnce {flags : BitVec 5} {s t : State} (h : execSetConfig flags s = .next t) :
    AnsweredOnce s t := by
  refine guarded_answeredOnce h fun hb => ?_
  cases hb
  exact PortKept.answer ⟨rfl, rfl⟩ _

theorem execSetCeiling_answeredOnce {payload : List Word} {s t : State} (h : execSetCeiling payload s = .next t) :
    AnsweredOnce s t := by
  refine guarded_answeredOnce h fun hb => ?_
  split at hb <;> cases hb
  · exact PortKept.answer ⟨rfl, rfl⟩ _
  · exact (PortKept.refl s).raise .cmdIllegal

theorem execAddModule_answeredOnce {n : Byte} {text : List Byte} {s t : State}
    (h : execAddModule n text s = .next t) : AnsweredOnce s t := by
  refine guarded_answeredOnce h fun hb => ?_
  split at hb
  · cases hb
    exact (PortKept.refl s).raise .cfgTooManyModules
  · split at hb <;> cases hb
    · exact (PortKept.refl s).raise _
    · exact PortKept.answer ⟨rfl, rfl⟩ _

theorem execBuild_answeredOnce {n : Byte} {text : List Byte} {s t : State} (h : execBuild n text s = .next t) :
    AnsweredOnce s t := by
  refine guarded_answeredOnce h fun hb => ?_
  split at hb <;> cases hb
  · exact (PortKept.refl s).raise _
  · exact PortKept.answer ⟨rfl, rfl⟩ _

theorem execValidate_answeredOnce {m : Byte} {frame : List Word} {s t : State}
    (h : execValidate m frame s = .next t) : AnsweredOnce s t := by
  refine guarded_answeredOnce h fun hb => ?_
  split at hb
  · cases hb
    exact (PortKept.refl s).raise .cmdIllegal
  · split at hb
    · cases hb
    · rename_i u v hv
      obtain ⟨_, w, _, _, rfl, _⟩ := validateModule_ok hv
      cases hb
      exact PortKept.answer ⟨rfl, rfl⟩ _

theorem execCollect_answeredOnce {bit : BitVec 5} {orient : Orient} {lanes : List Word} {s t : State}
    (h : execCollect bit orient lanes s = .next t) : AnsweredOnce s t := by
  refine guarded_answeredOnce h fun hb => ?_
  cases hb
  exact (PortKept.refl s).answer _

theorem execReadReg_answeredOnce {reg m : Byte} {s t : State} (h : execReadReg reg m s = .next t) :
    AnsweredOnce s t := by
  unfold execReadReg at h
  split at h <;> cases h
  · exact (PortKept.refl s).respond _
  · exact answeredOnce_illegal s

/-- A STEP answers once, or its read has not returned. -/
theorem execStep_port {s t : State} (h : execStep s = .next t) : AnsweredOnce s t ∨ PortKept s t := by
  refine (guarded_next h).elim .inl fun hb => ?_
  split at hb
  · cases hb
    exact .inr (PortKept.refl s)
  · cases hb
  · rename_i code u hf
    cases hb
    exact .inl ((frameStep_raised_portKept hf).raise code)
  · rename_i u hf
    cases hb
    exact .inl ((frameStep_finished_portKept hf).answer _)

/-- A machine step of RUN answers once, or the run goes on (log entries 6 and 7). -/
theorem execRun_port {s t : State} (h : execRun s = .next t) : AnsweredOnce s t ∨ PortKept s t := by
  refine (guarded_next h).elim .inl fun hb => ?_
  split at hb
  · cases hb
    exact .inr (PortKept.refl s)
  · cases hb
  · rename_i code u hf
    cases hb
    exact .inl ((frameStep_raised_portKept hf).raise code)
  · rename_i u hf
    split at hb <;> cases hb
    · exact .inr ((frameStep_finished_portKept hf).trans ⟨rfl, rfl⟩)
    · exact .inl ((frameStep_finished_portKept hf).answer _)

/-- Settles O9, command by command: the checks of R335 and every body answer once, but for STEP's and RUN's. -/
theorem oneResponsePerCommand : Obligations.OneResponsePerCommand := by
  intro i s t hi h
  cases i with
  | reset => exact .inl (execReset_answeredOnce h)
  | setConfig => exact .inl (execSetConfig_answeredOnce h)
  | setCeiling => exact .inl (execSetCeiling_answeredOnce h)
  | addModule => exact .inl (execAddModule_answeredOnce h)
  | build => exact .inl (execBuild_answeredOnce h)
  | validate => exact .inl (execValidate_answeredOnce h)
  | collect => exact .inl (execCollect_answeredOnce h)
  | readReg => exact .inl (execReadReg_answeredOnce h)
  | step => exact (execStep_port h).imp_right fun hp => ⟨.inl rfl, hp⟩
  | run => exact (execRun_port h).imp_right fun hp => ⟨.inr rfl, hp⟩
  | bankA | bankB | bankC | bankD | bankS | bankP | bankL | bankM => cases hi

/-! ### A step runs what it fetched -/

/-- A fetched code that decodes is run in the state the fetch hands on. -/
theorem step_of_fetch_code {s t : State} {c : Code} {i : Instr} (hf : fetch s = .code c t) (hd : decode c = .ok i) :
    step s = exec i t := by
  simp only [step, hf, hd]

/-- Settles O4: a command is fetched in the state as it stands, a letter as it leaves the text. -/
theorem stepRunsDecodedInstruction : Obligations.StepRunsDecodedInstruction :=
  ⟨fun _ _ _ _ _ ht hq hd _ => step_of_fetch_code (fetch_command ht hq) hd,
    fun _ _ _ _ ht hd _ => step_of_fetch_code (fetch_letter ht) hd⟩

end Sys2Proof.Machine
end

section
/-! The reset values (R53) as STATUS and the other words read them, and the fields of STATUS (R33). -/

namespace Sys2Proof.Machine

theorem reset_buildTag : ∀ i : Fin 41, State.reset.buildTag[i] = 0 := by decide

/-- Settles O11. -/
theorem powerUpHoldsResetValues : Obligations.PowerUpHoldsResetValues := by
  refine ⟨rfl, rfl, fun reg hlow hhigh => ?_, fun i h => reset_buildTag ⟨i, h⟩, rfl⟩
  interval_cases reg <;> rfl

theorem phaseValue_lt (p : Phase) : phaseValue p < 4 := by cases p <;> decide

theorem outcomeValue_lt (o : RunOutcome) : outcomeValue o < 4 := by cases o <;> decide

theorem fatalCodeValue_lt (c : FatalCode) : fatalCodeValue c < 13 := by cases c <;> decide

/-- STATUS as a number: the three fields do not reach bit 64 (R33). -/
theorem statusWord_toNat (s : State) :
    (statusWord s).toNat = phaseValue s.phase + 4 * outcomeValue s.outcome + 256 * fatalCodeValue s.fatalCode := by
  have hp := phaseValue_lt s.phase
  have ho := outcomeValue_lt s.outcome
  have hc := fatalCodeValue_lt s.fatalCode
  rw [statusWord, BitVec.toNat_ofNat, Nat.mod_eq_of_lt (by omega)]

/-- A field of STATUS as a number. -/
theorem statusWord_field (s : State) (start len : Nat) :
    ((statusWord s).extractLsb' start len).toNat =
      (phaseValue s.phase + 4 * outcomeValue s.outcome + 256 * fatalCodeValue s.fatalCode) / 2 ^ start % 2 ^ len := by
  rw [BitVec.extractLsb'_toNat, statusWord_toNat, Nat.shiftRight_eq_div_pow]

/-- Settles O18: each field is cut out of the number by division. -/
theorem statusWordHoldsItsFields : Obligations.StatusWordHoldsItsFields := by
  intro s
  have hp := phaseValue_lt s.phase
  have ho := outcomeValue_lt s.outcome
  have hc := fatalCodeValue_lt s.fatalCode
  refine ⟨?_, ?_, BitVec.eq_of_toNat_eq ?_, ?_, BitVec.eq_of_toNat_eq ?_⟩ <;> rw [statusWord_field]
  · calc _ = phaseValue s.phase := by omega
      _ = _ := by cases s.phase <;> rfl
  · calc _ = outcomeValue s.outcome := by omega
      _ = _ := by cases s.outcome <;> rfl
  · simp only [BitVec.ofNat_eq_ofNat, BitVec.toNat_ofNat]
    omega
  · calc _ = fatalCodeValue s.fatalCode := by omega
      _ = _ := by cases s.fatalCode <;> rfl
  · simp only [BitVec.ofNat_eq_ofNat, BitVec.toNat_ofNat]
    omega

/-- Settles O56: there is no module yet, no run and no outcome, and every counter is 0. -/
theorem resetMeetsInvariant : Obligations.ResetMeetsInvariant where
  modules_le := by decide
  modules_inv := fun x h => by cases h
  offsets_tile := fun m x h => by cases h
  config_reserved := by decide
  fatal_code := by decide
  no_outcome := fun _ => rfl
  done_outcome := fun h => by cases h
  run_has_module := fun h => by rcases h with h | h <;> cases h
  config_counts := fun _ => rfl
  byte_count := by decide
  record_zero := fun _ => ⟨rfl, rfl, rfl, rfl⟩
  record_corrupt := fun h => by cases h
  bs_total := rfl
  build_len := by decide
  build_rest := fun i h _ => reset_buildTag ⟨i, h⟩

end Sys2Proof.Machine
end

section
/-! DIAG is a history that no rule reads (R48): every operation of the model, run in a state whose DIAG has other events
in front, does what it does without them and leaves them in front. -/

namespace Sys2Proof.Machine

/-- The state s, had the events d been emitted before those of its DIAG. -/
def State.withEarlier (d : List DiagEvent) (s : State) : State := { s with diag := d ++ s.diag }

/-- An outcome, had the events d been emitted before. -/
def outcomeWithEarlier (d : List DiagEvent) : Host.Outcome State Fault Refusal → Host.Outcome State Fault Refusal
  | .next t => .next (t.withEarlier d)
  | .fault f => .fault f
  | .refused r => .refused r

/-- A module loop's result, had the events d been emitted before. -/
def LoopResult.withEarlier (d : List DiagEvent) : LoopResult → LoopResult
  | .accepted t => .accepted (t.withEarlier d)
  | .corrupt m t => .corrupt m (t.withEarlier d)
  | .stopped f => .stopped f

/-- A frame step's result, had the events d been emitted before. -/
def FrameResult.withEarlier (d : List DiagEvent) : FrameResult → FrameResult
  | .waits => .waits
  | .stopped f => .stopped f
  | .raised code t => .raised code (t.withEarlier d)
  | .finished t => .finished (t.withEarlier d)

/-- A fetch, had the events d been emitted before. -/
def Fetched.withEarlier (d : List DiagEvent) : Fetched → Fetched
  | .idle => .idle
  | .bindStream st => .bindStream st
  | .code c t => .code c (t.withEarlier d)

variable (d : List DiagEvent) (s : State)

/-! ### The shared operations -/

@[simp] theorem withEarlier_diag : (s.withEarlier d).diag = d ++ s.diag := rfl
@[simp] theorem withEarlier_params : (s.withEarlier d).params = s.params := rfl
@[simp] theorem withEarlier_phase : (s.withEarlier d).phase = s.phase := rfl
@[simp] theorem withEarlier_config : (s.withEarlier d).config = s.config := rfl
@[simp] theorem withEarlier_ceiling : (s.withEarlier d).ceiling = s.ceiling := rfl
@[simp] theorem withEarlier_modules : (s.withEarlier d).modules = s.modules := rfl
@[simp] theorem withEarlier_frameCount : (s.withEarlier d).frameCount = s.frameCount := rfl
@[simp] theorem withEarlier_frame : (s.withEarlier d).frame = s.frame := rfl
@[simp] theorem withEarlier_layout : (s.withEarlier d).layout = s.layout := rfl
@[simp] theorem withEarlier_queue : (s.withEarlier d).queue = s.queue := rfl
@[simp] theorem withEarlier_input : (s.withEarlier d).input = s.input := rfl
@[simp] theorem frameWords_withEarlier : frameWords (s.withEarlier d) = frameWords s := rfl
@[simp] theorem frameBytes_withEarlier : frameBytes (s.withEarlier d) = frameBytes s := rfl
@[simp] theorem statusWord_withEarlier : statusWord (s.withEarlier d) = statusWord s := rfl
@[simp] theorem readRegister_withEarlier (reg m : Byte) :
    readRegister (s.withEarlier d) reg m = readRegister s reg m := rfl

@[simp] theorem respond_withEarlier (r : Response) :
    (s.withEarlier d).respond r = (s.respond r).withEarlier d := rfl

@[simp] theorem refuse_withEarlier : (s.withEarlier d).refuse = s.refuse.withEarlier d := rfl

@[simp] theorem answer_withEarlier (v : DWord) : (s.withEarlier d).answer v = (s.answer v).withEarlier d := rfl

@[simp] theorem resultStatus_withEarlier :
    (s.withEarlier d).resultStatus = s.resultStatus.withEarlier d := rfl

@[simp] theorem countFrame_withEarlier : (s.withEarlier d).countFrame = s.countFrame.withEarlier d := rfl

@[simp] theorem sinkWrite_withEarlier (b : List Byte) :
    (s.withEarlier d).sinkWrite b = (s.sinkWrite b).withEarlier d := rfl

@[simp] theorem progressEvents_withEarlier : progressEvents (s.withEarlier d) = progressEvents s := rfl

@[simp] theorem resetRegisters_withEarlier :
    (s.withEarlier d).resetRegisters = s.resetRegisters.withEarlier d := rfl

@[simp] theorem bind_withEarlier (st : InputStream) : (s.withEarlier d).bind st = (s.bind st).withEarlier d := rfl

@[simp] theorem emit_withEarlier (es : List DiagEvent) :
    (s.withEarlier d).emit es = (s.emit es).withEarlier d := by
  show { s with diag := (d ++ s.diag) ++ es } = _
  rw [List.append_assoc]
  rfl

@[simp] theorem raise_withEarlier (code : FatalCode) :
    (s.withEarlier d).raise code = (s.raise code).withEarlier d := by
  show { s.raise code with diag := (d ++ s.diag) ++ [DiagEvent.fatalEvent code] } = _
  rw [List.append_assoc]
  rfl

@[simp] theorem endRun_withEarlier (o : RunOutcome) :
    (s.withEarlier d).endRun o = (s.endRun o).withEarlier d := by
  simp [State.endRun, State.withEarlier]

@[simp] theorem withValidation_withEarlier (m : Nat) (v : Validation) :
    (s.withEarlier d).withValidation m v = (s.withValidation m v).withEarlier d := by
  simp [State.withValidation, State.withEarlier]

@[simp] theorem endCorrupt_withEarlier (m : Nat) :
    (s.withEarlier d).endCorrupt m = (s.endCorrupt m).withEarlier d := by
  rw [State.endCorrupt, State.endCorrupt, ← endRun_withEarlier]
  rfl

@[simp] theorem illegal_withEarlier : (s.withEarlier d).illegal = s.illegal.withEarlier d := by
  by_cases hf : s.phase = .fatal <;> simp [State.illegal, hf]

@[simp] theorem checkCeiling_withEarlier : (s.withEarlier d).checkCeiling = s.checkCeiling.withEarlier d := by
  by_cases hc : ceilEn s.config ∧ s.ceiling < s.frameCount <;> simp [State.checkCeiling, hc]

@[simp] theorem acceptFrame_withEarlier (b : List Byte) :
    (s.withEarlier d).acceptFrame b = (s.acceptFrame b).withEarlier d := by
  simp [State.acceptFrame]

/-- A command whose body emits after d what it emits without d does so behind the checks of R335 too. -/
theorem guarded_withEarlier {ok : Bool} {legal : List Phase} {body body' : Host.Outcome State Fault Refusal}
    (hbody : body' = outcomeWithEarlier d body) :
    guarded ok legal (s.withEarlier d) body' = outcomeWithEarlier d (guarded ok legal s body) := by
  subst hbody
  unfold guarded
  by_cases hf : s.phase = .fatal
  · simp [hf, outcomeWithEarlier]
  · by_cases hok : ok = false
    · simp [hf, hok, outcomeWithEarlier]
    · by_cases hl : s.phase ∈ legal <;> simp [hf, hok, hl, outcomeWithEarlier]

/-! ### The module loop and the frame step -/

/-- A module validation, had the events d been emitted before. -/
def validationWithEarlier (d : List DiagEvent) : Except Fault (State × Verdict) → Except Fault (State × Verdict)
  | .ok (t, v) => .ok (t.withEarlier d, v)
  | .error f => .error f

theorem validateModule_withEarlier (m : Nat) (x : Module) :
    validateModule m x (s.withEarlier d) = validationWithEarlier d (validateModule m x s) := by
  simp only [validateModule, withEarlier_frame, withEarlier_params, withEarlier_config, withValidation_withEarlier]
  cases frameSlice s.frame (x.offset.toNat / 4) x.table.length with
  | none => rfl
  | some slice =>
    cases hv : validateSlice s.params s.config m x slice <;> simp [hv, validationWithEarlier]

theorem validateFrom_withEarlier (k m : Nat) :
    validateFrom k m (s.withEarlier d) = (validateFrom k m s).withEarlier d := by
  induction k generalizing m s with
  | zero => rfl
  | succ k ih =>
    cases hx : s.modules[m]? with
    | none => simp [validateFrom, hx, LoopResult.withEarlier]
    | some x =>
      cases hv : validateModule m x s with
      | error f =>
        simp [validateFrom, hx, validateModule_withEarlier, hv, validationWithEarlier, LoopResult.withEarlier]
      | ok r =>
        obtain ⟨t, v⟩ := r
        cases hok : v.ok <;>
          simp [validateFrom, hx, validateModule_withEarlier, hv, validationWithEarlier, hok, ih,
            LoopResult.withEarlier]

theorem frameBody_withEarlier (b : List Byte) :
    frameBody b (s.withEarlier d) = (frameBody b s).withEarlier d := by
  have hloop : validateFrom (s.withEarlier d).modules.length 0 { s.withEarlier d with frame := decodeFrame b } =
      (validateFrom s.modules.length 0 { s with frame := decodeFrame b }).withEarlier d :=
    validateFrom_withEarlier d { s with frame := decodeFrame b } s.modules.length 0
  by_cases hb : b.length < frameBytes s
  · simp [frameBody, hb, FrameResult.withEarlier]
  · rw [frameBody, hloop, frameBody, if_neg hb, frameBytes_withEarlier, if_neg hb]
    cases validateFrom s.modules.length 0 { s with frame := decodeFrame b } <;>
      simp [LoopResult.withEarlier, FrameResult.withEarlier]

theorem frameStep_withEarlier : frameStep (s.withEarlier d) = (frameStep s).withEarlier d := by
  by_cases hm : s.phase = .config ∧ s.modules.length = 0
  · simp [frameStep, hm, FrameResult.withEarlier]
  · rw [frameStep, frameStep, if_neg hm, withEarlier_phase, withEarlier_modules, if_neg hm, frameBytes_withEarlier,
      withEarlier_input]
    cases streamRead (frameBytes s) s.input with
    | waits => rfl
    | error st => rfl
    | bytes b st => exact frameBody_withEarlier d { s with phase := .running, input := st } b

/-! ### The instructions -/

theorem execSetCeiling_withEarlier (payload : List Word) :
    execSetCeiling payload (s.withEarlier d) = outcomeWithEarlier d (execSetCeiling payload s) := by
  refine guarded_withEarlier d s ?_
  split
  · rfl
  · rw [raise_withEarlier]
    rfl

theorem execAddModule_withEarlier (n : Byte) (text : List Byte) :
    execAddModule n text (s.withEarlier d) = outcomeWithEarlier d (execAddModule n text s) := by
  refine guarded_withEarlier d s ?_
  by_cases hfull : s.modules.length = 256
  · simp [hfull, outcomeWithEarlier]
  · rw [if_neg hfull, withEarlier_modules, if_neg hfull, withEarlier_config]
    cases buildDefinition (spadMon s.config) text with
    | error code => simp [outcomeWithEarlier]
    | ok b => rfl

theorem execBuild_withEarlier (n : Byte) (text : List Byte) :
    execBuild n text (s.withEarlier d) = outcomeWithEarlier d (execBuild n text s) := by
  refine guarded_withEarlier d s ?_
  rw [withEarlier_config]
  cases buildDefinition (spadMon s.config) text with
  | error code => simp [outcomeWithEarlier]
  | ok b => rfl

theorem execValidate_withEarlier (m : Byte) (frame : List Word) :
    execValidate m frame (s.withEarlier d) = outcomeWithEarlier d (execValidate m frame s) := by
  refine guarded_withEarlier d s ?_
  rw [show (s.withEarlier d).modules[m.toNat]? = s.modules[m.toNat]? from rfl]
  cases s.modules[m.toNat]? with
  | none => simp [outcomeWithEarlier]
  | some x =>
    have hv : validateModule m.toNat x { s.withEarlier d with frame := frame } =
        validationWithEarlier d (validateModule m.toNat x { s with frame := frame }) :=
      validateModule_withEarlier d { s with frame := frame } m.toNat x
    dsimp only at hv ⊢
    rw [hv]
    cases validateModule m.toNat x { s with frame := frame } <;> rfl

theorem execStep_withEarlier : execStep (s.withEarlier d) = outcomeWithEarlier d (execStep s) := by
  refine guarded_withEarlier d s ?_
  rw [frameStep_withEarlier]
  cases frameStep s <;> simp [FrameResult.withEarlier, outcomeWithEarlier]

theorem execRun_withEarlier : execRun (s.withEarlier d) = outcomeWithEarlier d (execRun s) := by
  refine guarded_withEarlier d s ?_
  rw [frameStep_withEarlier]
  cases frameStep s with
  | finished t => by_cases hr : t.phase = .running <;> simp [FrameResult.withEarlier, outcomeWithEarlier, hr]
  | waits | stopped | raised => simp [FrameResult.withEarlier, outcomeWithEarlier]

theorem execReadReg_withEarlier (reg m : Byte) :
    execReadReg reg m (s.withEarlier d) = outcomeWithEarlier d (execReadReg reg m s) := by
  unfold execReadReg
  rw [readRegister_withEarlier]
  cases readRegister s reg m <;> simp [outcomeWithEarlier]

theorem execLetter_withEarlier (effect : Bool → Layout → Except FatalCode Layout) :
    execLetter effect (s.withEarlier d) = outcomeWithEarlier d (execLetter effect s) := by
  by_cases hf : s.phase = .fatal
  · simp [execLetter, hf, outcomeWithEarlier]
  · rw [execLetter, execLetter, withEarlier_phase, if_neg hf, if_neg hf, withEarlier_config, withEarlier_layout]
    cases effect (spadMon s.config) s.layout with
    | ok lay => rfl
    | error code => exact congrArg _ (raise_withEarlier d { s with layout := Layout.idle } code)

/-- No instruction reads DIAG (R48). -/
theorem exec_withEarlier (i : Instr) : exec i (s.withEarlier d) = outcomeWithEarlier d (exec i s) := by
  cases i with
  | reset => rfl
  | setConfig flags => exact guarded_withEarlier d s rfl
  | setCeiling payload => exact execSetCeiling_withEarlier d s payload
  | addModule n text => exact execAddModule_withEarlier d s n text
  | build n text => exact execBuild_withEarlier d s n text
  | validate m frame => exact execValidate_withEarlier d s m frame
  | collect bit orient lanes => exact guarded_withEarlier d s rfl
  | step => exact execStep_withEarlier d s
  | run => exact execRun_withEarlier d s
  | readReg reg m => exact execReadReg_withEarlier d s reg m
  | bankA | bankB | bankC | bankD | bankS | bankP | bankL | bankM => exact execLetter_withEarlier d s _

/-! ### The step -/

theorem fetch_withEarlier : fetch (s.withEarlier d) = (fetch s).withEarlier d := by
  rcases fetch_cases s with ⟨ht, hq, h⟩ | ⟨st, q, ht, hq, h⟩ | ⟨cw, p, q, ht, hq, h⟩ | ⟨b, rest, ht, h⟩ <;> rw [h]
  · exact fetch_idle ht hq
  · exact fetch_bindStream ht hq
  · exact fetch_command ht hq
  · exact fetch_letter ht

theorem undecodable_withEarlier (e : DecodeError) :
    undecodable e (s.withEarlier d) = (undecodable e s).withEarlier d := by
  cases e with
  | reservedOp | reservedBit | payloadShape => exact illegal_withEarlier d s
  | illegalLetter =>
    by_cases hf : s.phase = .fatal
    · simp [undecodable, hf]
    · rw [undecodable, undecodable, withEarlier_phase, if_neg hf, if_neg hf]
      exact raise_withEarlier d { s with layout := Layout.idle } .cfgBadChar

/-- No step reads DIAG (R48). -/
theorem step_withEarlier : step (s.withEarlier d) = outcomeWithEarlier d (step s) := by
  simp only [step, fetch_withEarlier]
  cases fetch s with
  | idle => rfl
  | bindStream st => rfl
  | code c t =>
    simp only [Fetched.withEarlier]
    cases decode c with
    | ok i => exact exec_withEarlier d t i
    | error e => exact congrArg _ (undecodable_withEarlier d t e)

/-- Settles O54: s is the state with an empty DIAG, had the events of s.diag been emitted before, and a step keeps
that form; so what it emits from the empty DIAG is what it emits after any other. -/
theorem diagnosticsAreNeverRead : Obligations.DiagnosticsAreNeverRead := by
  intro s t d h
  have hs : s = State.withEarlier s.diag { s with diag := [] } := by simp [State.withEarlier]
  have hd : { s with diag := d } = State.withEarlier d { s with diag := [] } := by simp [State.withEarlier]
  rw [hs, step_withEarlier] at h
  rw [hd, step_withEarlier]
  cases hempty : step { s with diag := [] } with
  | next u =>
    rw [hempty] at h
    obtain rfl : u.withEarlier s.diag = t := by simpa [outcomeWithEarlier] using h
    exact ⟨u.diag, rfl, rfl⟩
  | fault f => rw [hempty] at h; cases h
  | refused r => rw [hempty] at h; cases h

end Sys2Proof.Machine
end

section
/-! What an instruction can do, said once: every next state of `exec` is one of a few named updates of the state before,
and every next state of `step` is one of those, a binding or no change. -/

namespace Sys2Proof.Machine

open Sys2Proof.Statement

/-! ### No fault carries the code 0 -/

theorem letterEffect_error {c : BankLetter} {spad : Bool} {lay : Layout} {code : FatalCode}
    (h : letterEffect c spad lay = .error code) : code = .cfgDupBank := by
  by_cases hc : c ∈ lay.banks
  · rw [letterEffect_of_mem hc] at h
    cases h
    rfl
  · obtain ⟨lay', hlay, _⟩ := letterEffect_of_not_mem (spad := spad) hc
    rw [hlay] at h
    cases h

theorem scanBanks_error_ne_noFault {spad : Bool} {text : List Byte} {lay : Layout} {code : FatalCode}
    (h : scanBanks spad text lay = .error code) : code ≠ .noFault := by
  induction text generalizing lay with
  | nil => cases h
  | cons b rest ih =>
    rw [scanBanks] at h
    split at h
    · cases h
      decide
    · split at h
      · exact ih h
      · rename_i c _ e he
        cases h
        rw [letterEffect_error he]
        decide

theorem parseSite_error_ne_noFault {text : List Byte} {code : FatalCode} (h : parseSite text = .error code) :
    code ≠ .noFault := by
  unfold parseSite at h
  split at h
  · cases h
    decide
  · split at h <;> cases h
    decide

theorem finishLayout_error_ne_noFault {lay : Layout} {code : FatalCode} (h : finishLayout lay = .error code) :
    code ≠ .noFault := by
  unfold finishLayout at h
  split at h
  · cases h
    decide
  · split at h
    · cases h
      decide
    · split at h <;> cases h
      decide

/-- What a definition that builds went through (R140 to R145). -/
theorem buildDefinition_ok {spad : Bool} {text : List Byte} {b : BuiltTable} (h : buildDefinition spad text = .ok b) :
    ∃ siteText bankText site lay, parseSite siteText = .ok site ∧
      scanBanks spad bankText { Layout.idle with site := site } = .ok lay ∧ finishLayout lay = .ok b := by
  unfold buildDefinition at h
  split at h
  · cases h
  · rename_i siteText bankText _
    split at h
    · cases h
    · rename_i site hsite
      split at h
      · cases h
      · rename_i lay hscan
        exact ⟨siteText, bankText, site, lay, hsite, hscan, h⟩

theorem buildDefinition_error_ne_noFault {spad : Bool} {text : List Byte} {code : FatalCode}
    (h : buildDefinition spad text = .error code) : code ≠ .noFault := by
  unfold buildDefinition at h
  split at h
  · cases h
    decide
  · split at h
    · rename_i hsite
      cases h
      exact parseSite_error_ne_noFault hsite
    · split at h
      · rename_i hscan
        cases h
        exact scanBanks_error_ne_noFault hscan
      · exact finishLayout_error_ne_noFault h

/-! ### The frame step -/

/-- A read of a run has returned and left the stream st (R262). -/
def State.withRead (st : InputStream) (s : State) : State := { s with phase := .running, input := st }

/-- The words f are in the frame buffer (R72). -/
def State.withFrame (f : List Word) (s : State) : State := { s with frame := f }

/-- The ways one frame's step from s is over with the state u: a short read, a corrupt frame, an accepted frame (R263,
R265 to R269). -/
inductive FrameEnds (s : State) : State → Prop
  | short {b : List Byte} {st : InputStream} (hread : streamRead (frameBytes s) s.input = .bytes b st)
      (hlen : b.length < frameBytes s) : FrameEnds s ((s.withRead st).endRun .endOfStream)
  | corrupt {b : List Byte} {st : InputStream} {m : Nat} {u : State}
      (hread : streamRead (frameBytes s) s.input = .bytes b st) (hlen : b.length = frameBytes s)
      (hloop : validateFrom s.modules.length 0 ((s.withRead st).withFrame (decodeFrame b)) = .corrupt m u) :
      FrameEnds s (u.endCorrupt m)
  | accepted {b : List Byte} {st : InputStream} {u : State}
      (hread : streamRead (frameBytes s) s.input = .bytes b st) (hlen : b.length = frameBytes s)
      (hloop : validateFrom s.modules.length 0 ((s.withRead st).withFrame (decodeFrame b)) = .accepted u) :
      FrameEnds s (u.acceptFrame b)

/-- A frame step that is over ended in one of the three ways. -/
theorem frameEnds_of_finished {s u : State} (h : frameStep s = .finished u) : FrameEnds s u := by
  rcases frameStep_cases s with ⟨_, _, hs⟩ | ⟨_, ⟨_, hs⟩ | ⟨_, _, hs⟩ | ⟨b, st, hread, hs⟩⟩ <;> rw [hs] at h
  · cases h
  · cases h
  · cases h
  · obtain ⟨_, hle, _⟩ := streamRead_bytes hread
    rcases frameBody_cases b (s.withRead st) with ⟨hlt, hb⟩ | ⟨hge, ⟨_, _, hb⟩ | ⟨m, u, hv, hb⟩ | ⟨u, hv, hb⟩⟩ <;>
      cases hb.symm.trans h
    · exact .short hread hlt
    · exact .corrupt hread (Nat.le_antisymm hle (Nat.le_of_not_lt hge)) hv
    · exact .accepted hread (Nat.le_antisymm hle (Nat.le_of_not_lt hge)) hv

/-- The two ways a frame step raises a fault (R262, R264). -/
theorem frameStep_raised {s u : State} {code : FatalCode} (h : frameStep s = .raised code u) :
    (code = .cfgNoModules ∧ u = s) ∨
      (code = .inputUnreadable ∧ ∃ st, streamRead (frameBytes s) s.input = .error st ∧ u = s.withRead st) := by
  rcases frameStep_cases s with ⟨_, _, hs⟩ | ⟨_, ⟨_, hs⟩ | ⟨st, hread, hs⟩ | ⟨b, st, _, hs⟩⟩ <;> rw [hs] at h
  · cases h
    exact .inl ⟨rfl, rfl⟩
  · cases h
  · cases h
    exact .inr ⟨rfl, st, hread, rfl⟩
  · exact absurd h (frameBody_ne_raised b _ u code)

/-- A frame step that reads at all has a run on, or one that can begin (R262). -/
theorem canStep_of_frameStep {s : State} (hphase : s.phase ∈ [Phase.config, .running])
    (h : frameStep s ≠ .raised .cfgNoModules s) : canStep s := by
  rcases frameStep_cases s with ⟨_, _, hs⟩ | ⟨hm, _⟩
  · exact absurd hs h
  · simp only [List.mem_cons, List.not_mem_nil, or_false] at hphase
    rcases hphase with hc | hr
    · exact .inr ⟨hc, fun hnil => hm ⟨hc, by simp [hnil]⟩⟩
    · exact .inl hr

/-! ### The instructions -/

/-- The next states of an instruction: `Effect i s t` lists what `exec i s` can answer. -/
inductive Effect : Instr → State → State → Prop
  | refuse {i : Instr} {s : State} (hphase : s.phase = .fatal) : Effect i s s.refuse
  | raise {i : Instr} {s : State} {code : FatalCode} (hphase : s.phase ≠ .fatal) (hcode : code ≠ .noFault) :
      Effect i s (s.raise code)
  | reset {s : State} : Effect .reset s (s.resetRegisters.answer 0)
  | setConfig {flags : BitVec 5} {s : State} (hphase : s.phase = .config) :
      Effect (.setConfig flags) s (State.answer (flags.zeroExtend 64) { s with config := flags.zeroExtend 64 })
  | setCeiling {payload : List Word} {v : DWord} {s : State} (hphase : s.phase = .config) :
      Effect (.setCeiling payload) s (State.answer v { s with ceiling := v })
  | addModule {n : Byte} {text : List Byte} {b : BuiltTable} {s : State} (hphase : s.phase = .config)
      (hroom : s.modules.length ≠ 256) (hbuild : buildDefinition (spadMon s.config) text = .ok b) :
      Effect (.addModule n text) s (State.answer (BitVec.ofNat 64 s.modules.length)
        { s with modules := s.modules ++ [newModule (BitVec.ofNat 64 (frameBytes s)) b] })
  | build {n : Byte} {text : List Byte} {b : BuiltTable} {s : State} (hphase : s.phase ≠ .fatal)
      (hbuild : buildDefinition (spadMon s.config) text = .ok b) :
      Effect (.build n text) s (State.answer (BitVec.ofNat 64 b.table.length)
        { s with buildLen := BitVec.ofNat 64 b.table.length, buildTag := buildTags b.table })
  | validate {m : Byte} {frame : List Word} {x : Module} {s t : State} {v : Verdict} (hphase : s.phase = .config)
      (hmodule : s.modules[m.toNat]? = some x)
      (hvalid : validateModule m.toNat x (s.withFrame frame) = .ok (t, v)) :
      Effect (.validate m frame) s (t.answer (verdictWord v))
  | collect {bit : BitVec 5} {orient : Orient} {lanes : List Word} {v : DWord} {s : State}
      (hphase : s.phase ≠ .fatal) : Effect (.collect bit orient lanes) s (s.answer v)
  | waits {i : Instr} {s : State} (hi : i = .step ∨ i = .run) : Effect i s s
  | readError {i : Instr} {s : State} {st : InputStream} (hi : i = .step ∨ i = .run) (hstep : canStep s)
      (hread : streamRead (frameBytes s) s.input = .error st) : Effect i s ((s.withRead st).raise .inputUnreadable)
  | frameDone {i : Instr} {s u : State} (hi : i = .step ∨ i = .run) (hstep : canStep s) (hends : FrameEnds s u) :
      Effect i s (u.answer (statusWord u))
  | runGoesOn {s u : State} (hstep : canStep s) (hends : FrameEnds s u) (hrun : u.phase = .running) :
      Effect .run s u.resultStatus
  | readReg {reg m : Byte} {v : DWord} {s : State} : Effect (.readReg reg m) s (s.respond (.ok v))
  | letter {i : Instr} {lay : Layout} {s : State} (hi : isLetter i = true) (hphase : s.phase ≠ .fatal) :
      Effect i s { s with layout := lay }
  | letterFault {i : Instr} {s : State} {code : FatalCode} (hi : isLetter i = true) (hphase : s.phase ≠ .fatal)
      (hcode : code ≠ .noFault) : Effect i s (State.raise code { s with layout := Layout.idle })

/-- The checks of R335 refuse or raise, or leave the command to its body. -/
theorem guarded_effect {i : Instr} {ok : Bool} {legal : List Phase} {s t : State}
    {body : Host.Outcome State Fault Refusal} (h : guarded ok legal s body = .next t)
    (hbody : s.phase ≠ .fatal → s.phase ∈ legal → body = .next t → Effect i s t) : Effect i s t := by
  rcases @guarded_cases ok legal s body with
    ⟨hf, hg⟩ | ⟨hf, _, hg⟩ | ⟨hf, _, _, hg⟩ | ⟨hf, _, hl, hg⟩ <;> rw [hg] at h
  · cases h
    exact .refuse hf
  · cases h
    exact .raise hf (by decide)
  · cases h
    exact .raise hf (by decide)
  · exact hbody hf hl h

theorem execSetCeiling_effect {payload : List Word} {s t : State} (h : execSetCeiling payload s = .next t) :
    Effect (.setCeiling payload) s t := by
  refine guarded_effect h fun hf hl hb => ?_
  split at hb <;> cases hb
  · exact .setCeiling (List.mem_singleton.mp hl)
  · exact .raise hf (by decide)

theorem execAddModule_effect {n : Byte} {text : List Byte} {s t : State} (h : execAddModule n text s = .next t) :
    Effect (.addModule n text) s t := by
  refine guarded_effect h fun hf hl hb => ?_
  split at hb
  · cases hb
    exact .raise hf (by decide)
  · rename_i hroom
    split at hb <;> rename_i hbuild <;> cases hb
    · exact .raise hf (buildDefinition_error_ne_noFault hbuild)
    · exact .addModule (List.mem_singleton.mp hl) hroom hbuild

theorem execBuild_effect {n : Byte} {text : List Byte} {s t : State} (h : execBuild n text s = .next t) :
    Effect (.build n text) s t := by
  refine guarded_effect h fun hf _ hb => ?_
  split at hb <;> rename_i hbuild <;> cases hb
  · exact .raise hf (buildDefinition_error_ne_noFault hbuild)
  · exact .build hf hbuild

theorem execValidate_effect {m : Byte} {frame : List Word} {s t : State} (h : execValidate m frame s = .next t) :
    Effect (.validate m frame) s t := by
  refine guarded_effect h fun hf hl hb => ?_
  split at hb
  · cases hb
    exact .raise hf (by decide)
  · rename_i x hx
    split at hb <;> cases hb
    rename_i hv
    exact .validate (List.mem_singleton.mp hl) hx hv

theorem frameStep_raised_effect {i : Instr} (hi : i = .step ∨ i = .run) {s u : State} {code : FatalCode}
    (hf : s.phase ≠ .fatal) (hl : s.phase ∈ [Phase.config, .running]) (h : frameStep s = .raised code u) :
    Effect i s (u.raise code) := by
  rcases frameStep_raised h with ⟨rfl, rfl⟩ | ⟨rfl, st, hread, rfl⟩
  · exact .raise hf (by decide)
  · exact .readError hi (canStep_of_frameStep hl (by simp [h])) hread

theorem execStep_effect {s t : State} (h : execStep s = .next t) : Effect .step s t := by
  refine guarded_effect h fun hf hl hb => ?_
  split at hb <;> rename_i hs <;> cases hb
  · exact .waits (.inl rfl)
  · exact frameStep_raised_effect (.inl rfl) hf hl hs
  · exact .frameDone (.inl rfl) (canStep_of_frameStep hl (by simp [hs])) (frameEnds_of_finished hs)

theorem execRun_effect {s t : State} (h : execRun s = .next t) : Effect .run s t := by
  refine guarded_effect h fun hf hl hb => ?_
  split at hb <;> rename_i hs
  · cases hb
    exact .waits (.inr rfl)
  · cases hb
  · cases hb
    exact frameStep_raised_effect (.inr rfl) hf hl hs
  · have hstep := canStep_of_frameStep hl (by simp [hs])
    split at hb <;> rename_i hrun <;> cases hb
    · exact .runGoesOn hstep (frameEnds_of_finished hs) hrun
    · exact .frameDone (.inr rfl) hstep (frameEnds_of_finished hs)

theorem execReadReg_effect {reg m : Byte} {s t : State} (h : execReadReg reg m s = .next t) :
    Effect (.readReg reg m) s t := by
  unfold execReadReg at h
  split at h <;> cases h
  · exact .readReg
  · rcases illegal_cases s with ⟨hf, hs⟩ | ⟨hf, hs⟩ <;> rw [hs]
    · exact .refuse hf
    · exact .raise hf (by decide)

theorem execLetter_effect {i : Instr} {c : BankLetter} (hi : isLetter i = true) {s t : State}
    (h : execLetter (letterEffect c) s = .next t) : Effect i s t := by
  rcases execLetter_cases (letterEffect c) s with ⟨hf, hs⟩ | ⟨hf, lay, _, hs⟩ | ⟨hf, code, hcode, hs⟩ <;>
    rw [hs] at h <;> cases h
  · exact .refuse hf
  · exact .letter hi hf
  · exact .letterFault hi hf (by rw [letterEffect_error hcode]; decide)

/-- Every next state of an instruction is listed. -/
theorem effect_of_exec {i : Instr} {s t : State} (h : exec i s = .next t) : Effect i s t := by
  cases i with
  | reset => cases h; exact .reset
  | setConfig flags =>
    refine guarded_effect h fun _ hl hb => ?_
    cases hb
    exact .setConfig (List.mem_singleton.mp hl)
  | setCeiling payload => exact execSetCeiling_effect h
  | addModule n text => exact execAddModule_effect h
  | build n text => exact execBuild_effect h
  | validate m frame => exact execValidate_effect h
  | collect bit orient lanes =>
    refine guarded_effect h fun hf _ hb => ?_
    cases hb
    exact .collect hf
  | step => exact execStep_effect h
  | run => exact execRun_effect h
  | readReg reg m => exact execReadReg_effect h
  | bankA => exact execLetter_effect (c := .A) rfl h
  | bankB => exact execLetter_effect (c := .B) rfl h
  | bankC => exact execLetter_effect (c := .C) rfl h
  | bankD => exact execLetter_effect (c := .D) rfl h
  | bankS => exact execLetter_effect (c := .S) rfl h
  | bankP => exact execLetter_effect (c := .P) rfl h
  | bankL => exact execLetter_effect (c := .l) rfl h
  | bankM => exact execLetter_effect (c := .m) rfl h

/-! ### The step -/

/-- Everything a step can answer: no change, a binding, or what an instruction or an undecodable code leaves of
the state, of whose bank text a letter may have been fetched. -/
theorem step_next_cases {s t : State} (h : step s = .next t) :
    t = s ∨ (∃ st, t = s.bind st) ∨
      ∃ lay, (∃ i, Effect i { s with layout := lay } t) ∨ ∃ e, t = undecodable e { s with layout := lay } := by
  have run_code : ∀ (c : Code) (lay : Layout), fetch s = .code c { s with layout := lay } →
      (∃ i, Effect i { s with layout := lay } t) ∨ ∃ e, t = undecodable e { s with layout := lay } := by
    intro c lay hf
    simp only [step, hf] at h
    split at h
    · exact .inl ⟨_, effect_of_exec h⟩
    · cases h
      exact .inr ⟨_, rfl⟩
  rcases fetch_cases s with ⟨_, _, hf⟩ | ⟨st, _, _, _, hf⟩ | ⟨cw, p, _, _, _, hf⟩ | ⟨b, rest, _, hf⟩
  · simp only [step, hf] at h
    cases h
    exact .inl rfl
  · simp only [step, hf] at h
    cases h
    exact .inr (.inl ⟨st, rfl⟩)
  · exact .inr (.inr ⟨s.layout, run_code _ _ hf⟩)
  · exact .inr (.inr ⟨_, run_code _ _ hf⟩)

end Sys2Proof.Machine
end

section
/-! What every step keeps: the static part of the modules (R40), the registers no frame writes, the ports'
histories, and POS against BYTE_COUNT (R50). -/

namespace Sys2Proof.Machine

open Sys2Proof.Statement

/-! ### The module loop, by one validation at a time -/

/-- What every validation of a registered module keeps, the module loop keeps (R265). -/
theorem validateFrom_preserves {P : State → Prop}
    (hvalid : ∀ m x s t v, P s → s.modules[m]? = some x → validateModule m x s = .ok (t, v) → P t)
    (k m : Nat) (s : State) (hs : P s) :
    (∀ t, validateFrom k m s = .accepted t → P t) ∧ (∀ j t, validateFrom k m s = .corrupt j t → P t) := by
  induction k generalizing m s with
  | zero => exact ⟨fun t h => by cases h; exact hs, fun j t h => by cases h⟩
  | succ k ih =>
    cases hx : s.modules[m]? with
    | none =>
      refine ⟨fun t h => ?_, fun j t h => ?_⟩ <;> simp only [validateFrom, hx] at h <;> cases h
      exact hs
    | some x =>
      cases hv : validateModule m x s with
      | error f => refine ⟨fun t h => ?_, fun j t h => ?_⟩ <;> simp [validateFrom, hx, hv] at h
      | ok r =>
        obtain ⟨u, v⟩ := r
        have hu : P u := hvalid m x s u v hs hx hv
        cases hok : v.ok with
        | true => simpa only [validateFrom, hx, hv, hok, if_true] using ih (m + 1) u hu
        | false =>
          simp only [validateFrom, hx, hv, hok, Bool.false_eq_true, if_false]
          exact ⟨fun t h => (LoopResult.noConfusion h), fun j t h => by cases h; exact hu⟩

/-- What every validation keeps holds at the end of a frame's loop, if it holds when the frame is read. -/
theorem FrameEnds.loop_preserves {s u : State} {P : State → Prop} (hends : FrameEnds s u)
    (hvalid : ∀ m x s t v, P s → s.modules[m]? = some x → validateModule m x s = .ok (t, v) → P t)
    (hread : ∀ b st, P ((s.withRead st).withFrame (decodeFrame b))) :
    (∃ st, u = (s.withRead st).endRun .endOfStream) ∨ (∃ m v, P v ∧ u = v.endCorrupt m) ∨
      ∃ b v, P v ∧ u = v.acceptFrame b := by
  cases hends with
  | @short b st => exact .inl ⟨st, rfl⟩
  | @corrupt b st m v _ _ hloop =>
    exact .inr (.inl ⟨m, v, (validateFrom_preserves hvalid _ _ _ (hread b st)).2 m v hloop, rfl⟩)
  | @accepted b st v _ _ hloop =>
    exact .inr (.inr ⟨b, v, (validateFrom_preserves hvalid _ _ _ (hread b st)).1 v hloop, rfl⟩)

/-! ### The static part of the modules -/

/-- SITE, OFFSET, VARIANT and TABLE (R40). -/
def staticPart (x : Module) : Byte × DWord × Variant × List Tag := (x.site, x.offset, x.variant, x.table)

/-- The static parts of all modules, in registration order. -/
def staticParts (s : State) : List (Byte × DWord × Variant × List Tag) := s.modules.map staticPart

theorem staticPart_eq_iff {x y : Module} :
    staticPart y = staticPart x ↔
      y.site = x.site ∧ y.offset = x.offset ∧ y.variant = x.variant ∧ y.table = x.table := by
  simp [staticPart]

/-- A validation writes dynamic fields only (R40, R181). -/
theorem validateSlice_staticPart {p : Params} {config : DWord} {m : Nat} {x : Module} {slice : List Word}
    {w : Validation} (h : validateSlice p config m x slice = .ok w) : staticPart w.module = staticPart x := by
  rcases validateSlice_cases p config m x slice with ⟨_, hv⟩ | ⟨_, _, hv⟩ | ⟨_, _, _, _, hv⟩ | ⟨_, _, hv⟩ <;>
    rw [hv] at h <;> cases h <;> rfl

theorem validateModule_staticParts {m : Nat} {x : Module} {s t : State} {v : Verdict} (hx : s.modules[m]? = some x)
    (h : validateModule m x s = .ok (t, v)) : staticParts t = staticParts s := by
  obtain ⟨slice, w, _, hw, rfl, _⟩ := validateModule_ok h
  obtain ⟨hm, rfl⟩ := List.getElem?_eq_some_iff.mp hx
  have hset : (s.modules.map staticPart).set m (staticPart s.modules[m]) = s.modules.map staticPart := by
    rw [← List.getElem_map staticPart (h := by simpa using hm), List.set_getElem_self]
  rw [staticParts, State.withValidation_modules, List.map_set, validateSlice_staticPart hw, hset, staticParts]

theorem FrameEnds.staticParts {s u : State} (h : FrameEnds s u) : staticParts u = staticParts s := by
  have hloop := h.loop_preserves (P := fun t => Machine.staticParts t = Machine.staticParts s)
    (fun _ _ _ _ _ hs hx hv => (validateModule_staticParts hx hv).trans hs) (fun _ _ => rfl)
  rcases hloop with ⟨st, rfl⟩ | ⟨m, v, hv, rfl⟩ | ⟨b, v, hv, rfl⟩
  · rfl
  · exact hv
  · rw [← hv, State.acceptFrame, State.checkCeiling]
    split <;> rfl

/-- FRAME_WORDS is a sum over the static parts (R34). -/
theorem frameWords_eq_of_staticParts {s t : State} (h : staticParts t = staticParts s) :
    frameWords t = frameWords s := by
  have hwords : ∀ u, frameWords u = ((staticParts u).map fun p => p.2.2.2.length).sum := by
    simp [frameWords, staticParts, staticPart, Function.comp_def]
  rw [hwords, hwords, h]

theorem length_eq_of_staticParts {s t : State} (h : staticParts t = staticParts s) :
    t.modules.length = s.modules.length := by
  simpa [staticParts] using congrArg List.length h

theorem module_of_staticParts {s t : State} (h : staticParts t = staticParts s) {m : Nat} {x : Module}
    (hx : s.modules[m]? = some x) : ∃ y, t.modules[m]? = some y ∧ staticPart y = staticPart x := by
  have hm : (staticParts t)[m]? = some (staticPart x) := by rw [h]; simp [staticParts, hx]
  simpa [staticParts] using hm

/-- The static parts stay, but for RESET, and for ADD_MODULE, which appends one (R40, R79). -/
theorem Effect.staticParts {i : Instr} {s t : State} (h : Effect i s t) (hi : i ≠ .reset) :
    staticParts t = staticParts s ∨ ((∃ n text, i = .addModule n text) ∧ ∃ x, t.modules = s.modules ++ [x]) := by
  cases h with
  | reset => exact absurd rfl hi
  | addModule => exact .inr ⟨⟨_, _, rfl⟩, _, rfl⟩
  | @validate _ frame _ _ u _ _ hx hv =>
    exact .inl (validateModule_staticParts (s := s.withFrame frame) (t := u) hx hv)
  | frameDone _ _ hends => exact .inl hends.staticParts
  | runGoesOn _ hends _ => exact .inl hends.staticParts
  | refuse | raise | setConfig | setCeiling | build | collect | waits | readError | readReg | letter | letterFault =>
    exact .inl rfl

/-- Settles O39: the static parts stay, or ADD_MODULE appends a module to them. -/
theorem moduleStaticPartIsFixed : Obligations.ModuleStaticPartIsFixed := by
  intro i s t hi h
  rcases (effect_of_exec h).staticParts hi with hparts | ⟨⟨n, text, rfl⟩, x, hx⟩
  · refine ⟨fun m x hm => ?_, fun _ => length_eq_of_staticParts hparts⟩
    obtain ⟨y, hy, hyx⟩ := module_of_staticParts hparts hm
    exact ⟨y, hy, staticPart_eq_iff.mp hyx⟩
  · refine ⟨fun m y hm => ⟨y, ?_, rfl, rfl, rfl, rfl⟩, fun hno => absurd rfl (hno n text)⟩
    obtain ⟨hlt, _⟩ := List.getElem?_eq_some_iff.mp hm
    rw [hx, List.getElem?_append_left hlt, hm]

/-! ### The registers no frame writes -/

/-- The registers for which R52 does not name STEP and RUN. -/
def outsideRun (s : State) :=
  (s.params, s.fatalCode, s.config, s.ceiling, s.buildLen, s.buildTag, s.layout)

theorem outsideRun_eq_iff {s t : State} :
    outsideRun t = outsideRun s ↔ t.params = s.params ∧ t.fatalCode = s.fatalCode ∧ t.config = s.config ∧
      t.ceiling = s.ceiling ∧ t.buildLen = s.buildLen ∧ t.buildTag = s.buildTag ∧ t.layout = s.layout := by
  simp [outsideRun]

theorem OnlyValidated.outsideRun {s t : State} (h : OnlyValidated s t) : outsideRun t = outsideRun s := by
  rw [h.1]
  rfl

theorem outsideRun_checkCeiling (s : State) : outsideRun s.checkCeiling = outsideRun s := by
  unfold State.checkCeiling
  split <;> rfl

theorem outsideRun_acceptFrame (b : List Byte) (s : State) : outsideRun (s.acceptFrame b) = outsideRun s :=
  outsideRun_checkCeiling _

theorem validateModule_onlyValidated {m : Nat} {x : Module} {s t : State} {v : Verdict}
    (h : validateModule m x s = .ok (t, v)) : OnlyValidated s t := by
  obtain ⟨_, w, _, _, rfl, _⟩ := validateModule_ok h
  exact onlyValidated_withValidation m w s

theorem FrameEnds.outsideRun {s u : State} (h : FrameEnds s u) : outsideRun u = outsideRun s := by
  cases h with
  | short => rfl
  | corrupt _ _ hloop => exact ((validateFrom_onlyValidated _ _ _).2 _ _ hloop).outsideRun
  | accepted _ _ hloop =>
    rw [outsideRun_acceptFrame]
    exact ((validateFrom_onlyValidated _ _ _).1 _ hloop).outsideRun

theorem checkCeiling_phase (s : State) :
    (s.checkCeiling).phase = if ceilEn s.config ∧ s.ceiling < s.frameCount then .done else s.phase := by
  unfold State.checkCeiling
  split <;> rfl

theorem OnlyValidated.phase {s t : State} (h : OnlyValidated s t) : t.phase = s.phase := by
  rw [h.1]

/-- One frame's step leaves the run on or done (R345). -/
theorem FrameEnds.phase {s u : State} (h : FrameEnds s u) : u.phase = .running ∨ u.phase = .done := by
  cases h with
  | short => exact .inr rfl
  | corrupt => exact .inr rfl
  | @accepted b st v _ _ hloop =>
    have hv : v.phase = .running := ((validateFrom_onlyValidated _ _ _).1 _ hloop).phase
    rw [State.acceptFrame, checkCeiling_phase]
    split
    · exact .inr rfl
    · exact .inl hv

theorem FrameEnds.phase_ne_fatal {s u : State} (h : FrameEnds s u) : u.phase ≠ .fatal := by
  rcases h.phase with hp | hp <;> simp [hp]

/-- R52's table of writers: t keeps the registers of s that R52 does not name i for. -/
def KeepsUnnamed (i : Instr) (s t : State) : Prop :=
  ((∀ flags, i ≠ .setConfig flags) → t.config = s.config) ∧
  ((∀ p, i ≠ .setCeiling p) → t.ceiling = s.ceiling) ∧
  ((∀ n d, i ≠ .build n d) → t.buildLen = s.buildLen ∧ t.buildTag = s.buildTag) ∧
  ((i ≠ .step ∧ i ≠ .run) → t.frameCount = s.frameCount ∧ t.byteCount = s.byteCount ∧ t.outcome = s.outcome ∧
    t.corruptFrame = s.corruptFrame ∧ t.corruptModule = s.corruptModule ∧
    t.corruptStreamOffset = s.corruptStreamOffset ∧ t.corruptModuleOffset = s.corruptModuleOffset ∧
    t.sink = s.sink) ∧
  (validates i = false → t.errTotal = s.errTotal ∧ t.bsErrTotal = s.bsErrTotal ∧ t.frame = s.frame ∧
    ∀ (m : Nat) (x : Module), s.modules[m]? = some x → t.modules[m]? = some x) ∧
  (isLetter i = false → t.layout = s.layout) ∧
  ((∃ reg m, i = .readReg reg m) ∨ isLetter i = true ∨ t.phase = .fatal → t.result = s.result)

/-- A STEP or RUN needs to keep the registers outside the run only, and RESULT in FATAL. -/
theorem keepsUnnamed_of_outsideRun {i : Instr} (hi : i = .step ∨ i = .run) {s t : State}
    (hkept : outsideRun t = outsideRun s) (hresult : t.phase = .fatal → t.result = s.result) :
    KeepsUnnamed i s t := by
  obtain ⟨_, _, hconfig, hceiling, hlen, htag, hlayout⟩ := outsideRun_eq_iff.mp hkept
  rcases hi with rfl | rfl <;>
    exact ⟨fun _ => hconfig, fun _ => hceiling, fun _ => ⟨hlen, htag⟩, by simp, by simp [validates], fun _ => hlayout,
      by simpa [isLetter] using hresult⟩

theorem Effect.keepsUnnamed {i : Instr} {s t : State} (h : Effect i s t) (hi : i ≠ .reset) : KeepsUnnamed i s t := by
  cases h with
  | reset => exact absurd rfl hi
  | refuse | raise | collect | readReg | setConfig | setCeiling | build | waits => simp_all [KeepsUnnamed, isLetter]
  | addModule hphase =>
    refine ⟨by simp, by simp, by simp, by simp, fun _ => ⟨rfl, rfl, rfl, fun m x hm => ?_⟩, by simp, ?_⟩
    · obtain ⟨hlt, _⟩ := List.getElem?_eq_some_iff.mp hm
      rw [← hm]
      exact List.getElem?_append_left hlt
    · simp [isLetter, hphase]
  | @validate m frame x _ u v hphase hx hv =>
    rw [(validateModule_onlyValidated hv).1]
    simp [KeepsUnnamed, validates, isLetter, hphase, State.withFrame]
  | letter hl | letterFault hl => simp [KeepsUnnamed, hl]
  | readError hrun => rcases hrun with rfl | rfl <;> simp [KeepsUnnamed, validates, State.withRead]
  | frameDone hrun _ hends =>
    exact keepsUnnamed_of_outsideRun hrun hends.outsideRun fun hf => absurd hf hends.phase_ne_fatal
  | runGoesOn _ hends hrun =>
    exact keepsUnnamed_of_outsideRun (.inr rfl) hends.outsideRun fun hf => absurd hf hends.phase_ne_fatal

/-- Settles O52, by what each instruction can do; STEP and RUN keep the registers outside the run. -/
theorem onlyTheNamedCommandsWrite : Obligations.OnlyTheNamedCommandsWrite :=
  fun _ _ _ h hi => (effect_of_exec h).keepsUnnamed hi

/-! ### The histories of the ports -/

/-- The sink, DIAG and the responses have grown at most, and the parameters are as they were (R48, R54, R74). -/
structure HistoriesGrow (s t : State) : Prop where
  sink : s.sink <+: t.sink
  diag : s.diag <+: t.diag
  responses : s.responses <+: t.responses
  params : t.params = s.params
  no_sink : s.params.sinkPresent = false → t.sink = s.sink

theorem HistoriesGrow.refl (s : State) : HistoriesGrow s s :=
  ⟨List.prefix_rfl, List.prefix_rfl, List.prefix_rfl, rfl, fun _ => rfl⟩

theorem HistoriesGrow.trans {s t u : State} (h : HistoriesGrow s t) (k : HistoriesGrow t u) : HistoriesGrow s u :=
  ⟨h.sink.trans k.sink, h.diag.trans k.diag, h.responses.trans k.responses, k.params.trans h.params,
    fun hp => (k.no_sink (by rw [h.params, hp])).trans (h.no_sink hp)⟩

/-- An update that leaves the sink and the parameters alone, and appends to DIAG and to the responses. -/
theorem historiesGrow_of_append {s t : State} {es : List DiagEvent} {rs : List Response} (hsink : t.sink = s.sink)
    (hparams : t.params = s.params) (hdiag : t.diag = s.diag ++ es) (hresp : t.responses = s.responses ++ rs) :
    HistoriesGrow s t :=
  ⟨by rw [hsink], ⟨es, hdiag.symm⟩, ⟨rs, hresp.symm⟩, hparams, fun _ => hsink⟩

/-- An update of other fields only. -/
theorem historiesGrow_of_eq {s t : State} (hsink : t.sink = s.sink) (hparams : t.params = s.params)
    (hdiag : t.diag = s.diag) (hresp : t.responses = s.responses) : HistoriesGrow s t :=
  historiesGrow_of_append (es := []) (rs := []) hsink hparams (by simp [hdiag]) (by simp [hresp])

theorem historiesGrow_withLayout (lay : Layout) (s : State) : HistoriesGrow s { s with layout := lay } :=
  historiesGrow_of_eq rfl rfl rfl rfl

theorem historiesGrow_withRead (st : InputStream) (s : State) : HistoriesGrow s (s.withRead st) :=
  historiesGrow_of_eq rfl rfl rfl rfl

theorem historiesGrow_withFrame (f : List Word) (s : State) : HistoriesGrow s (s.withFrame f) :=
  historiesGrow_of_eq rfl rfl rfl rfl

theorem historiesGrow_countFrame (s : State) : HistoriesGrow s s.countFrame :=
  historiesGrow_of_eq rfl rfl rfl rfl

theorem historiesGrow_respond (r : Response) (s : State) : HistoriesGrow s (s.respond r) :=
  historiesGrow_of_append (es := []) (rs := [r]) rfl rfl (by simp) rfl

theorem historiesGrow_raise (code : FatalCode) (s : State) : HistoriesGrow s (s.raise code) :=
  historiesGrow_of_append (es := [.fatalEvent code]) (rs := [.fault code]) rfl rfl rfl rfl

theorem historiesGrow_answer (v : DWord) (s : State) : HistoriesGrow s (s.answer v) :=
  historiesGrow_of_append (es := []) (rs := [.ok v]) rfl rfl (by simp) rfl

theorem historiesGrow_endRun (o : RunOutcome) (s : State) : HistoriesGrow s (s.endRun o) :=
  historiesGrow_of_append (rs := []) rfl rfl rfl (by simp)

theorem historiesGrow_endCorrupt (m : Nat) (s : State) : HistoriesGrow s (s.endCorrupt m) :=
  historiesGrow_of_append (rs := []) rfl rfl rfl (by simp [State.endCorrupt])

theorem historiesGrow_withValidation (m : Nat) (v : Validation) (s : State) : HistoriesGrow s (s.withValidation m v) :=
  historiesGrow_of_append (rs := []) rfl rfl rfl (by simp)

theorem historiesGrow_sinkWrite (b : List Byte) (s : State) : HistoriesGrow s (s.sinkWrite b) := by
  cases hp : s.params.sinkPresent <;> constructor <;> simp [hp]

theorem historiesGrow_emit (es : List DiagEvent) (s : State) : HistoriesGrow s (s.emit es) :=
  historiesGrow_of_append (rs := []) rfl rfl rfl (by simp)

theorem historiesGrow_checkCeiling (s : State) : HistoriesGrow s s.checkCeiling := by
  unfold State.checkCeiling
  split
  · exact historiesGrow_endRun .completed s
  · exact .refl s

theorem historiesGrow_acceptFrame (b : List Byte) (s : State) : HistoriesGrow s (s.acceptFrame b) :=
  (historiesGrow_sinkWrite b s).trans
    ((historiesGrow_countFrame _).trans
      ((historiesGrow_emit _ _).trans (historiesGrow_checkCeiling _)))

theorem historiesGrow_validateModule {m : Nat} {x : Module} {s t : State} {v : Verdict}
    (h : validateModule m x s = .ok (t, v)) : HistoriesGrow s t := by
  obtain ⟨_, w, _, _, rfl, _⟩ := validateModule_ok h
  exact historiesGrow_withValidation m w s

theorem FrameEnds.historiesGrow {s u : State} (h : FrameEnds s u) : HistoriesGrow s u := by
  have hloop := h.loop_preserves (P := HistoriesGrow s)
    (fun _ _ _ _ _ hs _ hv => hs.trans (historiesGrow_validateModule hv))
    (fun b st => historiesGrow_of_eq rfl rfl rfl rfl)
  rcases hloop with ⟨st, rfl⟩ | ⟨m, v, hv, rfl⟩ | ⟨b, v, hv, rfl⟩
  · exact (historiesGrow_withRead st s).trans (historiesGrow_endRun _ _)
  · exact hv.trans (historiesGrow_endCorrupt m v)
  · exact hv.trans (historiesGrow_acceptFrame b v)

theorem Effect.historiesGrow {i : Instr} {s t : State} (h : Effect i s t) : HistoriesGrow s t := by
  cases h with
  | refuse | readReg => exact historiesGrow_respond _ _
  | raise => exact historiesGrow_raise _ _
  | reset | setConfig | setCeiling | addModule | build | collect =>
    exact historiesGrow_of_append (es := []) (rs := [.ok _]) rfl rfl (List.append_nil _).symm rfl
  | @validate m frame x _ u v _ _ hv =>
    exact (historiesGrow_withFrame frame s).trans ((historiesGrow_validateModule hv).trans (historiesGrow_answer _ _))
  | waits => exact .refl s
  | @readError _ _ st =>
    exact (historiesGrow_withRead st s).trans (historiesGrow_raise _ _)
  | frameDone _ _ hends => exact hends.historiesGrow.trans (historiesGrow_answer _ _)
  | runGoesOn _ hends _ => exact hends.historiesGrow.trans (historiesGrow_of_eq rfl rfl rfl rfl)
  | letter => exact historiesGrow_of_eq rfl rfl rfl rfl
  | letterFault => exact historiesGrow_of_append rfl rfl rfl rfl

theorem historiesGrow_undecodable (e : DecodeError) (s : State) : HistoriesGrow s (undecodable e s) := by
  rcases undecodable_cases e s with ⟨_, h⟩ | ⟨_, _, h⟩ | ⟨_, _, h⟩ <;> rw [h]
  · exact historiesGrow_respond _ _
  · exact historiesGrow_raise _ _
  · exact historiesGrow_of_append rfl rfl rfl rfl

/-- Settles O53, by what each step can do. -/
theorem portsOnlyAppend : Obligations.PortsOnlyAppend := by
  intro s t h
  have hgrow : HistoriesGrow s t := by
    rcases step_next_cases h with rfl | ⟨st, rfl⟩ | ⟨lay, ⟨i, heffect⟩ | ⟨e, rfl⟩⟩
    · exact .refl t
    · exact historiesGrow_of_eq rfl rfl rfl rfl
    · exact (historiesGrow_withLayout lay s).trans heffect.historiesGrow
    · exact (historiesGrow_withLayout lay s).trans
        (historiesGrow_undecodable e _)
  exact ⟨hgrow.sink, hgrow.diag, hgrow.responses, hgrow.params, hgrow.no_sink⟩

/-! ### POS and BYTE_COUNT -/

theorem checkCeiling_input (s : State) : s.checkCeiling.input = s.input := by
  unfold State.checkCeiling
  split <;> rfl

theorem checkCeiling_byteCount (s : State) : s.checkCeiling.byteCount = s.byteCount := by
  unfold State.checkCeiling
  split <;> rfl

theorem acceptFrame_input (b : List Byte) (s : State) : (s.acceptFrame b).input = s.input :=
  checkCeiling_input _

theorem acceptFrame_byteCount (b : List Byte) (s : State) :
    (s.acceptFrame b).byteCount = s.byteCount + BitVec.ofNat 64 (frameBytes s) :=
  checkCeiling_byteCount _

theorem frameBytes_eq_of_staticParts {s t : State} (h : staticParts t = staticParts s) :
    frameBytes t = frameBytes s := by
  rw [frameBytes, frameBytes, frameWords_eq_of_staticParts h]

theorem validateFrom_accepted_staticParts {k m : Nat} {s t : State} (h : validateFrom k m s = .accepted t) :
    staticParts t = staticParts s :=
  (validateFrom_preserves (P := fun u => staticParts u = staticParts s)
    (fun _ _ _ _ _ hu hx hv => (validateModule_staticParts hx hv).trans hu) k m s rfl).1 t h

/-- A frame that leaves the run on was accepted, and moved POS and BYTE_COUNT by FRAME_BYTES each (R50, R267). -/
theorem FrameEnds.pos_eq_byteCount {s u : State} (h : FrameEnds s u) (hrun : u.phase = .running)
    (hs : BitVec.ofNat 64 s.input.pos = s.byteCount) : BitVec.ofNat 64 u.input.pos = u.byteCount := by
  cases h with
  | short => cases hrun
  | corrupt => cases hrun
  | @accepted b st v hread hlen hloop =>
    obtain ⟨_, _, rfl⟩ := streamRead_bytes hread
    have hparts := validateFrom_accepted_staticParts hloop
    have hbytes : frameBytes v = frameBytes s := frameBytes_eq_of_staticParts hparts
    have hv := ((validateFrom_onlyValidated _ _ _).1 _ hloop).1
    have hinput : v.input.pos = s.input.pos + frameBytes s := by rw [hv, ← hlen]; rfl
    have hcount : v.byteCount = s.byteCount := by rw [hv]; rfl
    rw [acceptFrame_input, acceptFrame_byteCount, hbytes, hinput, hcount, ← hs, BitVec.ofNat_add]

/-- Settles O59: of the commands that stay in CONFIG or RUNNING, only an accepted frame moves either, and it
moves both. -/
theorem readPositionEqualsByteCount : Obligations.ReadPositionEqualsByteCount := by
  intro i s t hi h hs ht
  cases effect_of_exec h with
  | reset => exact absurd rfl hi
  | refuse hphase => simp [hphase] at ht
  | raise | letterFault | readError => simp at ht
  | setConfig | setCeiling | addModule | build | collect | readReg | waits | letter => exact hs ht
  | @validate m frame x _ u v hphase hx hv =>
    have hu := (validateModule_onlyValidated hv).1
    rw [hu]
    exact hs (.inl hphase)
  | @frameDone _ _ u _ hstep hends =>
    have hrun : u.phase = .running := hends.phase.resolve_right fun hdone => by simp [hdone] at ht
    exact hends.pos_eq_byteCount hrun (hs (hstep.elim .inr fun hc => .inl hc.1))
  | runGoesOn hstep hends hrun => exact hends.pos_eq_byteCount hrun (hs (hstep.elim .inr fun hc => .inl hc.1))

end Sys2Proof.Machine
end

section
/-! The invariant of one module's register set: what a definition that builds gives (R108, R144, R154, R192), and what a
validation keeps (R41 to R45, R190 to R192). -/

namespace Sys2Proof.Machine

/-! ### The scan -/

/-- What the scan keeps of the table being built (R143, R146 to R153): each letter once, four IDs on each half for every
channel group, and behind them what S and P append. -/
structure ScanInv (lay : Layout) : Prop where
  site_le : lay.site.toNat ≤ 6
  nodup : lay.banks.Nodup
  lower_len : lay.lower.length = 4 * channelBanks lay
  upper_len : lay.upper.length = 4 * channelBanks lay
  block_ids : ∀ tag ∈ lay.lower ++ lay.upper, ∃ t, tag = .id t ∧ t.toNat ≤ 0xDF
  tail_ids : ∀ t, Tag.id t ∉ lay.tail
  tail_len : lay.tail.length ≤ (if .S ∈ lay.banks then 8 else 0) + (if .P ∈ lay.banks then 1 else 0)
  tail_counter : lay.tail.count .sampleCounter ≤ if .S ∈ lay.banks then 1 else 0
  tail_slot : ∀ j, lay.tail.count (.scratchpad j) ≤ if .S ∈ lay.banks then 1 else 0

theorem scanInv_start {site : Byte} (h : site.toNat ≤ 6) : ScanInv { Layout.idle with site := site } where
  site_le := h
  nodup := List.nodup_nil
  lower_len := rfl
  upper_len := rfl
  block_ids := by simp [Layout.idle]
  tail_ids := by simp [Layout.idle]
  tail_len := by simp [Layout.idle]
  tail_counter := by simp [Layout.idle]
  tail_slot := by simp [Layout.idle]

theorem isChannelBank_iff {c : BankLetter} : isChannelBank c = true ↔ c ∈ [BankLetter.A, .B, .C, .D] := by
  cases c <;> decide

/-- There are four channel groups (R146). -/
theorem channelBanks_le {lay : Layout} (h : lay.banks.Nodup) : channelBanks lay ≤ 4 := by
  have hsub : lay.banks.filter isChannelBank ⊆ [BankLetter.A, .B, .C, .D] := fun c hc =>
    isChannelBank_iff.mp (List.mem_filter.mp hc).2
  exact ((h.filter _).subperm hsub).length_le

theorem four_le_channelBanks {lay : Layout} (hA : .A ∈ lay.banks) (hB : .B ∈ lay.banks) (hC : .C ∈ lay.banks)
    (hD : .D ∈ lay.banks) : 4 ≤ channelBanks lay := by
  have hnodup : [BankLetter.A, .B, .C, .D].Nodup := by decide
  have hsub : [BankLetter.A, .B, .C, .D] ⊆ lay.banks.filter isChannelBank := by
    simp [hA, hB, hC, hD, isChannelBank]
  exact (hnodup.subperm hsub).length_le

theorem channelBanks_append {lay lay' : Layout} {c : BankLetter} (h : lay'.banks = lay.banks ++ [c]) :
    channelBanks lay' = channelBanks lay + if isChannelBank c then 1 else 0 := by
  rw [channelBanks, h, List.filter_append, List.length_append]
  cases hc : isChannelBank c <;> simp [channelBanks, hc]

/-- `(site << 5) | ch` is the sum of its parts, and at most 0xDF (R108). -/
theorem expectedId_le {site : Byte} {ch : Nat} (hsite : site.toNat ≤ 6) (hch : ch < 32) :
    (expectedId site ch).toNat ≤ 0xDF := by
  have hshift : (site <<< 5).toNat = site.toNat <<< 5 := by
    rw [BitVec.toNat_shiftLeft, Nat.mod_eq_of_lt]
    rw [Nat.shiftLeft_eq]
    omega
  rw [expectedId, BitVec.toNat_or, hshift, BitVec.toNat_ofNat, Nat.mod_eq_of_lt (by omega),
    ← Nat.shiftLeft_add_eq_or_of_lt (show ch < 2 ^ 5 from hch), Nat.shiftLeft_eq]
  omega

theorem idGroup_ids {site : Byte} {ch : Nat} (hsite : site.toNat ≤ 6) (hch : ch + 3 < 32) :
    ∀ tag ∈ idGroup site ch, ∃ t, tag = .id t ∧ t.toNat ≤ 0xDF := by
  intro tag htag
  simp only [idGroup, List.mem_cons, List.not_mem_nil, or_false] at htag
  rcases htag with rfl | rfl | rfl | rfl <;> exact ⟨_, rfl, expectedId_le hsite (by omega)⟩

theorem nodup_append_letter {banks : List BankLetter} {c : BankLetter} (h : banks.Nodup) (hnew : c ∉ banks) :
    (banks ++ [c]).Nodup := by
  simpa using h.concat hnew

/-- A channel group puts four IDs on each half (R146 to R148). -/
theorem scanInv_acceptChannelBank {c : BankLetter} {lay lay' : Layout} (h : ScanInv lay)
    (hc : isChannelBank c = true) (hnew : c ∉ lay.banks) (hacc : acceptChannelBank c lay = .ok lay') :
    ScanInv lay' := by
  rw [acceptChannelBank_of_not_mem hnew] at hacc
  have hlay := Except.ok.inj hacc
  have hbanks : lay'.banks = lay.banks ++ [c] := by rw [← hlay]
  have hnodup : lay'.banks.Nodup := hbanks ▸ nodup_append_letter h.nodup hnew
  have hcount : channelBanks lay' = channelBanks lay + 1 := by rw [channelBanks_append hbanks, if_pos hc]
  have hroom : channelBanks lay + 1 ≤ 4 := hcount ▸ channelBanks_le hnodup
  have hS : c ≠ .S := by rintro rfl; cases hc
  have hP : c ≠ .P := by rintro rfl; cases hc
  have hmemS : .S ∈ lay'.banks ↔ .S ∈ lay.banks := by simp [hbanks, hS.symm]
  have hmemP : .P ∈ lay'.banks ↔ .P ∈ lay.banks := by simp [hbanks, hP.symm]
  have hlower := h.lower_len
  have hupper := h.upper_len
  constructor
  case site_le => rw [← hlay]; exact h.site_le
  case nodup => exact hnodup
  case lower_len => rw [hcount, ← hlay]; simp [idGroup, hlower]; omega
  case upper_len => rw [hcount, ← hlay]; simp [idGroup, hupper]; omega
  case block_ids =>
    intro tag htag
    rw [← hlay] at htag
    simp only [List.mem_append] at htag
    rcases htag with (hold | hgroup) | (hgroup | hold)
    · exact h.block_ids tag (List.mem_append_left _ hold)
    · exact idGroup_ids h.site_le (by omega) tag hgroup
    · exact idGroup_ids h.site_le (by omega) tag hgroup
    · exact h.block_ids tag (List.mem_append_right _ hold)
  case tail_ids => rw [← hlay]; exact h.tail_ids
  case tail_len => simp only [hmemS, hmemP]; rw [← hlay]; exact h.tail_len
  case tail_counter => simp only [hmemS]; rw [← hlay]; exact h.tail_counter
  case tail_slot => simp only [hmemS]; rw [← hlay]; exact h.tail_slot

/-- l and m append nothing (R152). -/
theorem scanInv_acceptLetter {c : BankLetter} {lay : Layout} (h : ScanInv lay) (hc : isChannelBank c = false)
    (hS : c ≠ .S) (hP : c ≠ .P) (hnew : c ∉ lay.banks) : ScanInv { lay with banks := lay.banks ++ [c] } := by
  have hcount : channelBanks { lay with banks := lay.banks ++ [c] } = channelBanks lay := by
    rw [channelBanks_append (lay := lay) rfl, hc]; rfl
  have hmemS : .S ∈ lay.banks ++ [c] ↔ .S ∈ lay.banks := by simp [hS.symm]
  have hmemP : .P ∈ lay.banks ++ [c] ↔ .P ∈ lay.banks := by simp [hP.symm]
  exact
    { site_le := h.site_le
      nodup := nodup_append_letter h.nodup hnew
      lower_len := by rw [hcount]; exact h.lower_len
      upper_len := by rw [hcount]; exact h.upper_len
      block_ids := h.block_ids
      tail_ids := h.tail_ids
      tail_len := by simpa only [hmemS, hmemP] using h.tail_len
      tail_counter := by simpa only [hmemS] using h.tail_counter
      tail_slot := by simpa only [hmemS] using h.tail_slot }

/-- S appends eight entries, with one counter word and at most one word a slot (R150). -/
theorem scanInv_letterS {spad : Bool} {lay : Layout} (h : ScanInv lay) (hnew : .S ∉ lay.banks) :
    ScanInv { lay with banks := lay.banks ++ [.S], tail := lay.tail ++ statusEntries spad } := by
  have hlen : (statusEntries spad).length = 8 := by cases spad <;> rfl
  have hcounter : (statusEntries spad).count .sampleCounter = 1 := by cases spad <;> rfl
  have hslot : ∀ j, (statusEntries spad).count (.scratchpad j) ≤ 1 := by cases spad <;> decide
  have hids : ∀ t, Tag.id t ∉ statusEntries spad := by cases spad <;> simp [statusEntries]
  have hcount : channelBanks { lay with banks := lay.banks ++ [.S], tail := lay.tail ++ statusEntries spad } =
      channelBanks lay := (channelBanks_append (c := .S) rfl).trans rfl
  have htail := h.tail_len
  have htailc := h.tail_counter
  have htails := h.tail_slot
  simp only [hnew, if_false] at htail htailc htails
  exact
    { site_le := h.site_le
      nodup := nodup_append_letter h.nodup hnew
      lower_len := by rw [hcount]; exact h.lower_len
      upper_len := by rw [hcount]; exact h.upper_len
      block_ids := h.block_ids
      tail_ids := fun t ht => (List.mem_append.mp ht).elim (h.tail_ids t) (hids t)
      tail_len := by simp [hlen]; omega
      tail_counter := by simp [hcounter]; simpa using htailc
      tail_slot := fun j => by
        have := htails j
        have := hslot j
        simp only [List.count_append, List.mem_append, List.mem_singleton, or_true, if_true]
        omega }

/-- P appends one entry (R151). -/
theorem scanInv_letterP {lay : Layout} (h : ScanInv lay) (hnew : .P ∉ lay.banks) :
    ScanInv { lay with banks := lay.banks ++ [.P], tail := lay.tail ++ [.pmod] } := by
  have hcount : channelBanks { lay with banks := lay.banks ++ [.P], tail := lay.tail ++ [.pmod] } =
      channelBanks lay := (channelBanks_append (c := .P) rfl).trans rfl
  have htail := h.tail_len
  simp only [hnew, if_false] at htail
  exact
    { site_le := h.site_le
      nodup := nodup_append_letter h.nodup hnew
      lower_len := by rw [hcount]; exact h.lower_len
      upper_len := by rw [hcount]; exact h.upper_len
      block_ids := h.block_ids
      tail_ids := fun t ht => (List.mem_append.mp ht).elim (h.tail_ids t) (by simp)
      tail_len := by simpa using htail
      tail_counter := by simpa using h.tail_counter
      tail_slot := by simpa using h.tail_slot }

/-- Every letter keeps what the scan keeps. -/
theorem scanInv_letterEffect {c : BankLetter} {spad : Bool} {lay lay' : Layout} (h : ScanInv lay)
    (heffect : letterEffect c spad lay = .ok lay') : ScanInv lay' := by
  have hnew : c ∉ lay.banks := fun hc => by rw [letterEffect_of_mem hc] at heffect; cases heffect
  cases c with
  | A | B | C | D => exact scanInv_acceptChannelBank h rfl hnew heffect
  | S =>
    obtain rfl := Except.ok.inj ((acceptTailBank_of_not_mem hnew).symm.trans heffect)
    exact scanInv_letterS h hnew
  | P =>
    obtain rfl := Except.ok.inj ((acceptTailBank_of_not_mem hnew).symm.trans heffect)
    exact scanInv_letterP h hnew
  | l | m =>
    have hacc := (acceptLetter_eq _ lay).symm.trans heffect
    rw [if_neg hnew] at hacc
    obtain rfl := Except.ok.inj hacc
    exact scanInv_acceptLetter h rfl (by decide) (by decide) hnew

theorem scanInv_scanBanks {spad : Bool} {text : List Byte} {lay lay' : Layout} (h : ScanInv lay)
    (hscan : scanBanks spad text lay = .ok lay') : ScanInv lay' := by
  induction text generalizing lay with
  | nil => cases hscan; exact h
  | cons b rest ih =>
    rw [scanBanks] at hscan
    split at hscan
    · cases hscan
    · split at hscan
      · rename_i heffect
        exact ih (scanInv_letterEffect h heffect) hscan
      · cases hscan

/-! ### A definition that builds -/

/-- What R40, R108, R144, R154 and R192 say of a table that builds. -/
structure BuiltInv (b : BuiltTable) : Prop where
  site_le : b.site.toNat ≤ 6
  len_pos : 0 < b.table.length
  len_le : b.table.length ≤ 41
  ids_le : ∀ t, Tag.id t ∈ b.table → t.toNat ≤ 0xDF
  bitslice_len : b.variant ≠ .standard → 32 ≤ b.table.length
  bitslice_ids : b.variant ≠ .standard → ∀ tag ∈ b.table.take 32, ∃ t, tag = .id t
  one_counter : b.table.count .sampleCounter ≤ 1
  one_slot : ∀ j, b.table.count (.scratchpad j) ≤ 1

theorem ScanInv.table_length {lay : Layout} (h : ScanInv lay) :
    (layoutTable lay).length = 8 * channelBanks lay + lay.tail.length := by
  simp only [layoutTable, List.length_append, h.lower_len, h.upper_len]
  omega

/-- Tags that are no IDs stand in the tail only (R153). -/
theorem ScanInv.count_table {lay : Layout} (h : ScanInv lay) {tag : Tag} (htag : ∀ t, tag ≠ .id t) :
    (layoutTable lay).count tag = lay.tail.count tag := by
  have hblock : (lay.lower ++ lay.upper).count tag = 0 := List.count_eq_zero.mpr fun hmem => by
    obtain ⟨t, rfl, _⟩ := h.block_ids tag hmem
    exact htag t rfl
  rw [layoutTable, List.count_append, hblock, Nat.zero_add]

/-- Everything a finished layout satisfies (R144, R152). -/
theorem finishLayout_ok {lay : Layout} {b : BuiltTable} (h : finishLayout lay = .ok b) :
    (layoutTable lay).length ≠ 0 ∧
      ((.l ∈ lay.banks ∨ .m ∈ lay.banks) → .A ∈ lay.banks ∧ .B ∈ lay.banks ∧ .C ∈ lay.banks ∧ .D ∈ lay.banks) ∧
      b = { site := lay.site, table := layoutTable lay, variant := layoutVariant lay } := by
  unfold finishLayout at h
  split at h
  · cases h
  · split at h
    · cases h
    · rename_i hlen
      split at h
      · cases h
      · rename_i habcd
        cases h
        exact ⟨hlen, fun hlm => not_not.mp fun hno => habcd ⟨hlm, hno⟩, rfl⟩

theorem layoutVariant_ne_standard {lay : Layout} (h : layoutVariant lay ≠ .standard) :
    .l ∈ lay.banks ∨ .m ∈ lay.banks := by
  by_contra hno
  rw [not_or] at hno
  exact h (by rw [layoutVariant, if_neg hno.1, if_neg hno.2])

theorem builtInv_finishLayout {lay : Layout} {b : BuiltTable} (h : ScanInv lay) (hb : finishLayout lay = .ok b) :
    BuiltInv b := by
  obtain ⟨hpos, habcd, rfl⟩ := finishLayout_ok hb
  have hlen := h.table_length
  have hgroups := channelBanks_le h.nodup
  have htail : lay.tail.length ≤ 9 := h.tail_len.trans (by split <;> split <;> decide)
  have hfull : layoutVariant lay ≠ .standard → channelBanks lay = 4 := fun hv => by
    obtain ⟨hA, hB, hC, hD⟩ := habcd (layoutVariant_ne_standard hv)
    exact Nat.le_antisymm hgroups (four_le_channelBanks hA hB hC hD)
  have hone : (if .S ∈ lay.banks then 1 else 0) ≤ 1 := by split <;> decide
  constructor
  case site_le => exact h.site_le
  case len_pos => exact Nat.pos_of_ne_zero hpos
  case len_le => dsimp only; omega
  case ids_le =>
    intro t ht
    rcases List.mem_append.mp ht with hblock | htail
    · obtain ⟨u, hu, hle⟩ := h.block_ids _ hblock
      cases hu
      exact hle
    · exact absurd htail (h.tail_ids t)
  case bitslice_len =>
    intro hv
    have := hfull hv
    dsimp only
    omega
  case bitslice_ids =>
    intro hv tag htag
    have hblock : (lay.lower ++ lay.upper).length = 32 := by
      rw [List.length_append, h.lower_len, h.upper_len, hfull hv]
    rw [layoutTable, List.take_left' hblock] at htag
    obtain ⟨t, ht, _⟩ := h.block_ids tag htag
    exact ⟨t, ht⟩
  case one_counter =>
    dsimp only
    rw [h.count_table (by simp)]
    exact h.tail_counter.trans hone
  case one_slot =>
    intro j
    dsimp only
    rw [h.count_table (by simp)]
    exact (h.tail_slot j).trans hone

theorem parseSite_le {text : List Byte} {site : Byte} (h : parseSite text = .ok site) : site.toNat ≤ 6 := by
  unfold parseSite at h
  split at h
  · cases h
  · split at h <;> cases h
    rw [BitVec.toNat_ofNat]
    exact (Nat.mod_le _ _).trans (by omega)

/-- A definition that builds gives a table within the bounds (R144, R154). -/
theorem builtInv_buildDefinition {spad : Bool} {text : List Byte} {b : BuiltTable}
    (h : buildDefinition spad text = .ok b) : BuiltInv b := by
  obtain ⟨siteText, bankText, site, lay, hsite, hscan, hfinish⟩ := buildDefinition_ok h
  exact builtInv_finishLayout (scanInv_scanBanks (scanInv_start (parseSite_le hsite)) hscan) hfinish

/-- A new module's dynamic part is 0 (R53, R158). -/
theorem moduleInv_newModule {offset : DWord} {b : BuiltTable} (h : BuiltInv b) : ModuleInv (newModule offset b) where
  site_le := h.site_le
  len_pos := h.len_pos
  len_le := h.len_le
  ids_le := h.ids_le
  bitslice_len := h.bitslice_len
  bitslice_ids := h.bitslice_ids
  one_counter := h.one_counter
  one_slot := h.one_slot
  counter_zero := fun _ => rfl
  slot_zero := fun j _ => by fin_cases j <;> rfl
  standard_unprimed := fun _ => rfl
  unprimed_zero := fun _ => ⟨rfl, rfl, rfl, rfl⟩
  errs_le := Nat.zero_le _

/-! ### The word loop -/

/-- A word adds at most 1 to error_count (R181). -/
theorem wordPolicy_ec_le (mask : Word) (tag : Tag) (v : Word) (a : WordLoop) :
    (wordPolicy mask tag v a).ec.toNat ≤ a.ec.toNat + 1 := by
  have hinc : (a.ec + 1).toNat ≤ a.ec.toNat + 1 := by
    rw [BitVec.toNat_add]
    exact Nat.mod_le _ _
  cases tag with
  | noCheck | pmod | scratchpad => exact Nat.le_succ _
  | sampleCounter | id =>
    simp only [wordPolicy]
    split <;> simp only [hinc, Nat.le_succ]

/-- Only a SampleCounter word writes LAST_COUNTER (R188). -/
theorem wordPolicy_lastCounter {mask : Word} {tag : Tag} {v : Word} {a : WordLoop} (h : tag ≠ .sampleCounter) :
    (wordPolicy mask tag v a).lastCounter = a.lastCounter := by
  cases tag with
  | noCheck | pmod | scratchpad => rfl
  | sampleCounter => exact absurd rfl h
  | id =>
    simp only [wordPolicy]
    split <;> rfl

/-- Only the word of a slot writes it (R187). -/
theorem wordPolicy_spad {mask : Word} {tag : Tag} {v : Word} {a : WordLoop} {j : Fin 7} (h : tag ≠ .scratchpad j) :
    (wordPolicy mask tag v a).spad[j] = a.spad[j] := by
  cases tag with
  | noCheck | pmod => rfl
  | scratchpad k =>
    have hkj : k.val ≠ j.val := fun hval => h (congrArg _ (Fin.ext hval))
    simp [wordPolicy, Vector.getElem_set_ne, hkj]
  | sampleCounter | id =>
    simp only [wordPolicy]
    split <;> rfl

theorem checkWords_ec_le (config : DWord) (m i : Nat) (ws : List (Tag × Word)) (a : WordLoop) :
    (checkWords config m i ws a).ec.toNat ≤ a.ec.toNat + ws.length := by
  induction ws generalizing i a with
  | nil => exact Nat.le_refl _
  | cons w rest ih =>
    have hword : (checkWord config m i w.1 w.2 a).ec.toNat ≤ a.ec.toNat + 1 := wordPolicy_ec_le _ w.1 w.2 a
    have hrest := ih (i + 1) (checkWord config m i w.1 w.2 a)
    rw [checkWords_cons, List.length_cons]
    omega

theorem checkWords_lastCounter {config : DWord} {m i : Nat} {ws : List (Tag × Word)} {a : WordLoop}
    (h : ∀ w ∈ ws, w.1 ≠ .sampleCounter) : (checkWords config m i ws a).lastCounter = a.lastCounter := by
  induction ws generalizing i a with
  | nil => rfl
  | cons w rest ih =>
    rw [checkWords_cons, ih fun w hw => h w (List.mem_cons_of_mem _ hw)]
    exact wordPolicy_lastCounter (h w List.mem_cons_self)

theorem checkWords_spad {config : DWord} {m i : Nat} {ws : List (Tag × Word)} {a : WordLoop} {j : Fin 7}
    (h : ∀ w ∈ ws, w.1 ≠ .scratchpad j) : (checkWords config m i ws a).spad[j] = a.spad[j] := by
  induction ws generalizing i a with
  | nil => rfl
  | cons w rest ih =>
    rw [checkWords_cons, ih fun w hw => h w (List.mem_cons_of_mem _ hw)]
    exact wordPolicy_spad (h w List.mem_cons_self)

/-- A tag that is not in the table is met by no word of the slice. -/
theorem zip_fst_ne {table : List Tag} {slice : List Word} {tag : Tag} (h : tag ∉ table) :
    ∀ w ∈ table.zip slice, w.1 ≠ tag := by
  rintro ⟨_, v⟩ hw rfl
  exact h (List.of_mem_zip hw).1

/-! ### A validation keeps the module's invariant -/

theorem ModuleInv.afterWords {x : Module} (h : ModuleInv x) (config : DWord) (m : Nat) (slice : List Word) :
    ModuleInv (afterWords x (checkWords config m 0 (x.table.zip slice) (wordLoopStart x))) where
  __ := h
  counter_zero := fun hno => (checkWords_lastCounter (zip_fst_ne hno)).trans (h.counter_zero hno)
  slot_zero := fun j hno => (checkWords_spad (zip_fst_ne hno)).trans (h.slot_zero j hno)
  errs_le := by
    have hle := checkWords_ec_le config m 0 (x.table.zip slice) (wordLoopStart x)
    rw [List.length_zip] at hle
    have hstart : (wordLoopStart x).ec.toNat = 0 := rfl
    simp only [Machine.afterWords]
    omega

theorem ModuleInv.bitsliceStep {x : Module} (h : ModuleInv x) (hv : x.variant ≠ .standard) (p : Params)
    (config : DWord) (m : Nat) (lanes : List Word) : ModuleInv (bitsliceStep p config m x lanes).module where
  __ := h
  standard_unprimed := fun hs => absurd hs hv
  unprimed_zero := fun hp => by cases hp

theorem ModuleInv.esValidation {x : Module} (h : ModuleInv x) (m : Nat) : ModuleInv (esValidation m x).module where
  __ := h
  errs_le := Nat.zero_le _

theorem ModuleInv.validateSlice {p : Params} {config : DWord} {m : Nat} {x : Module} {slice : List Word}
    {w : Validation} (h : ModuleInv x) (hw : validateSlice p config m x slice = .ok w) : ModuleInv w.module := by
  rcases validateSlice_cases p config m x slice with ⟨_, hv⟩ | ⟨_, _, hv⟩ | ⟨_, hvar, _, _, hv⟩ | ⟨_, _, hv⟩ <;>
    rw [hv] at hw <;> cases hw
  · exact h.esValidation m
  · exact h.afterWords config m slice
  · exact (h.afterWords config m slice).bitsliceStep hvar p config m _

/-- BS_ERR counts the violations (R44). -/
theorem validateSlice_bsErr {p : Params} {config : DWord} {m : Nat} {x : Module} {slice : List Word}
    {w : Validation} (hw : validateSlice p config m x slice = .ok w) :
    w.module.bsErr = if w.violation then x.bsErr + 1 else x.bsErr := by
  rcases validateSlice_cases p config m x slice with ⟨_, hv⟩ | ⟨_, _, hv⟩ | ⟨_, _, _, _, hv⟩ | ⟨_, _, hv⟩ <;>
    rw [hv] at hw <;> cases hw <;> rfl

end Sys2Proof.Machine
end

section
/-! The invariant of the block's registers is kept by every step: by each named update of the state, then by the module
loop and the end of a frame, then by every instruction. -/

namespace Sys2Proof.Machine

open Sys2Proof.Statement

/-! ### The registers the invariant does not speak of -/

/-- The invariant speaks of no port, no parameter, and neither of CEILING, ERR_TOTAL, RESULT, the frame buffer nor the
bank-layout unit. -/
theorem Inv.of_eq_elsewhere {s t : State} (h : Inv s)
    (ht : t = { s with
      params := t.params, ceiling := t.ceiling, errTotal := t.errTotal, result := t.result, frame := t.frame,
      layout := t.layout, queue := t.queue, input := t.input, sink := t.sink, diag := t.diag,
      responses := t.responses }) : Inv t := by
  rw [ht]
  exact { h with }

theorem Inv.respond {s : State} (h : Inv s) (r : Response) : Inv (s.respond r) := h.of_eq_elsewhere rfl

theorem Inv.answer {s : State} (h : Inv s) (v : DWord) : Inv (s.answer v) := h.of_eq_elsewhere rfl

theorem Inv.resultStatus {s : State} (h : Inv s) : Inv s.resultStatus := h.of_eq_elsewhere rfl

theorem Inv.bind {s : State} (h : Inv s) (st : InputStream) : Inv (s.bind st) := h.of_eq_elsewhere rfl

theorem Inv.withFrame {s : State} (h : Inv s) (f : List Word) : Inv (s.withFrame f) := h.of_eq_elsewhere rfl

theorem Inv.withLayout {s : State} (h : Inv s) (lay : Layout) : Inv { s with layout := lay } := h.of_eq_elsewhere rfl

theorem Inv.sinkWrite {s : State} (h : Inv s) (b : List Byte) : Inv (s.sinkWrite b) := h.of_eq_elsewhere rfl

theorem Inv.emit {s : State} (h : Inv s) (es : List DiagEvent) : Inv (s.emit es) := h.of_eq_elsewhere rfl

/-! ### Faults and the control commands -/

/-- FATAL with the first code (R340); outcome and record stay. -/
theorem Inv.raise {s : State} (h : Inv s) {code : FatalCode} (hcode : code ≠ .noFault) : Inv (s.raise code) where
  __ := h
  fatal_code := by
    refine ⟨fun _ => ?_, fun _ => rfl⟩
    rw [State.raise_fatalCode]
    split
    · exact hcode
    · assumption
  no_outcome := fun hp => by rcases hp with hp | hp <;> cases hp
  done_outcome := fun hp => by cases hp
  run_has_module := fun hp => by rcases hp with hp | hp <;> cases hp
  config_counts := fun hp => by cases hp

theorem Inv.undecodable {s : State} (h : Inv s) (e : DecodeError) : Inv (undecodable e s) := by
  rcases undecodable_cases e s with ⟨_, ht⟩ | ⟨_, _, ht⟩ | ⟨_, _, ht⟩ <;> rw [ht]
  · exact h.respond _
  · exact h.raise (by decide)
  · exact (h.withLayout _).raise (by decide)

theorem Inv.resetRegisters (s : State) : Inv s.resetRegisters := resetMeetsInvariant.of_eq_elsewhere rfl

theorem Inv.setConfig {s : State} (h : Inv s) (flags : BitVec 5) :
    Inv { s with config := flags.zeroExtend 64 } where
  __ := h
  config_reserved := by
    have hlt := flags.isLt
    rw [BitVec.toNat_setWidth]
    exact (Nat.mod_le _ _).trans_lt hlt

/-- BUILD_TAG is 0 behind the table (R157). -/
theorem buildTags_eq_zero {table : List Tag} {i : Nat} (hi : i < 41) (hlen : table.length ≤ i) :
    (buildTags table)[i] = 0 := by
  show ((table.map tagWord ++ List.replicate 41 0).take 41)[i]'(by simp; omega) = 0
  rw [List.getElem_take, List.getElem_append_right (by simpa using hlen), List.getElem_replicate]

theorem Inv.build {s : State} (h : Inv s) {b : BuiltTable} (hb : BuiltInv b) :
    Inv { s with buildLen := BitVec.ofNat 64 b.table.length, buildTag := buildTags b.table } := by
  have hlen : (BitVec.ofNat 64 b.table.length).toNat = b.table.length := by
    rw [BitVec.toNat_ofNat, Nat.mod_eq_of_lt]
    exact hb.len_le.trans_lt (by decide)
  exact
    { h with
      build_len := hlen.trans_le hb.len_le
      build_rest := fun i hi hle => buildTags_eq_zero hi (hlen ▸ hle) }

/-! ### Modules -/

/-- FRAME_WORDS of at most 256 modules of at most 41 words (R8). -/
theorem Inv.frameWords_le {s : State} (h : Inv s) : frameWords s ≤ s.modules.length * 41 := by
  have hle := List.sum_le_card_nsmul (s.modules.map fun x => x.table.length) 41 fun n hn => by
    obtain ⟨x, hx, rfl⟩ := List.mem_map.mp hn
    exact (h.modules_inv x hx).len_le
  simpa [frameWords] using hle

theorem Inv.addModule {s : State} (h : Inv s) (hphase : s.phase = .config) (hroom : s.modules.length ≠ 256)
    {b : BuiltTable} (hb : BuiltInv b) :
    Inv { s with modules := s.modules ++ [newModule (BitVec.ofNat 64 (frameBytes s)) b] } := by
  have hle := h.modules_le
  have hwords := h.frameWords_le
  have hcounts := h.config_counts hphase
  have hoffset : (BitVec.ofNat 64 (frameBytes s)).toNat = frameBytes s := by
    rw [BitVec.toNat_ofNat, Nat.mod_eq_of_lt]
    rw [frameBytes]
    omega
  refine { h with
    modules_le := ?_, modules_inv := ?_, offsets_tile := ?_, run_has_module := ?_, byte_count := ?_,
    record_corrupt := ?_, bs_total := ?_ }
  · rw [List.length_append, List.length_singleton]
    omega
  · intro x hx
    rcases List.mem_append.mp hx with hold | hnew
    · exact h.modules_inv x hold
    · rw [List.mem_singleton.mp hnew]
      exact moduleInv_newModule hb
  · intro m x hx
    dsimp only at hx ⊢
    rcases Nat.lt_or_ge m s.modules.length with hlt | hge
    · rw [List.getElem?_append_left hlt] at hx
      rw [h.offsets_tile m x hx, sliceOffset, sliceOffset, List.take_append_of_le_length (Nat.le_of_lt hlt)]
    · rw [List.getElem?_append_right hge] at hx
      obtain ⟨hm, rfl⟩ := List.getElem?_eq_some_iff.mp hx
      rw [List.length_singleton] at hm
      obtain rfl : m = s.modules.length := by omega
      rw [sliceOffset, List.take_left, List.getElem_singleton]
      exact hoffset
  · exact fun _ => by simp
  · have hzero := h.byte_count
    rw [hcounts] at hzero
    dsimp only
    rw [hzero, hcounts, zero_mul, zero_mul]
  · intro hc
    rw [h.no_outcome (.inl hphase)] at hc
    cases hc
  · dsimp only
    rw [h.bs_total, List.map_append, List.sum_append]
    simp [newModule]

/-! ### Validations -/

/-- The offsets at which the slices start are sums over the static parts (R78). -/
theorem sliceOffset_eq_of_staticParts {s t : State} (h : staticParts t = staticParts s) (m : Nat) :
    sliceOffset t.modules m = sliceOffset s.modules m := by
  have hoffset : ∀ u : State, sliceOffset u.modules m =
      4 * (((staticParts u).take m).map fun p => p.2.2.2.length).sum := fun u => by
    simp [sliceOffset, staticParts, staticPart, ← List.map_take, Function.comp_def]
  rw [hoffset, hoffset, h]

/-- A sum after one summand has grown. -/
theorem sum_set_add {xs : List DWord} {m : Nat} {a : DWord} (hm : xs[m]? = some a) (d : DWord) :
    (xs.set m (a + d)).sum = xs.sum + d := by
  induction xs generalizing m with
  | nil => cases hm
  | cons y ys ih =>
    cases m with
    | zero =>
      cases hm
      simp only [List.set_cons_zero, List.sum_cons]
      ring
    | succ m =>
      simp only [List.set_cons_succ, List.sum_cons, ih hm]
      ring

theorem Inv.validateModule {m : Nat} {x : Module} {s t : State} {v : Verdict} (h : Inv s)
    (hx : s.modules[m]? = some x) (hv : validateModule m x s = .ok (t, v)) : Inv t := by
  have hparts := validateModule_staticParts hx hv
  have hlen := length_eq_of_staticParts hparts
  obtain ⟨slice, w, _, hw, rfl, _⟩ := validateModule_ok hv
  have hbytes := frameBytes_eq_of_staticParts hparts
  refine { h with
    modules_le := hlen.trans_le h.modules_le, modules_inv := ?_, offsets_tile := ?_, run_has_module := ?_,
    byte_count := ?_, record_corrupt := ?_, bs_total := ?_ }
  · intro y hy
    rcases List.mem_or_eq_of_mem_set hy with hold | rfl
    · exact h.modules_inv y hold
    · exact (h.modules_inv x (List.mem_of_getElem? hx)).validateSlice hw
  · intro k y hy
    obtain ⟨z, hz, hzy⟩ := module_of_staticParts hparts.symm hy
    rw [sliceOffset_eq_of_staticParts hparts, ← h.offsets_tile k z hz, (staticPart_eq_iff.mp hzy).2.1]
  · exact fun hp hnil => h.run_has_module hp (List.length_eq_zero_iff.mp (hlen ▸ List.length_eq_zero_iff.mpr hnil))
  · rw [hbytes]
    exact h.byte_count
  · intro hc
    obtain ⟨hframe, hstream, k, z, hz, hk, hoff⟩ := h.record_corrupt hc
    obtain ⟨y, hy, hyz⟩ := module_of_staticParts hparts hz
    exact ⟨hframe, hstream, k, y, hy, hk, hoff.trans (staticPart_eq_iff.mp hyz).2.1.symm⟩
  · have hm : (s.modules.map fun y => y.bsErr)[m]? = some x.bsErr := by rw [List.getElem?_map, hx]; rfl
    have hinc : ∀ a : DWord, (if w.violation then a + 1 else a) = a + if w.violation then 1 else 0 := fun a => by
      cases w.violation <;> simp
    rw [State.withValidation_bsErrTotal, State.withValidation_modules, List.map_set, validateSlice_bsErr hw,
      h.bs_total, hinc, hinc, sum_set_add hm]

/-! ### The end of a frame -/

/-- A run is on, or begins (R345). -/
theorem Inv.withRead {s : State} (h : Inv s) (hstep : canStep s) (st : InputStream) : Inv (s.withRead st) where
  __ := h
  fatal_code := by
    refine ⟨fun hp => (by cases hp), fun hcode => ?_⟩
    have hfatal := h.fatal_code.mpr hcode
    rcases hstep with hr | ⟨hc, _⟩
    · cases hr.symm.trans hfatal
    · cases hc.symm.trans hfatal
  no_outcome := fun _ => h.no_outcome (hstep.elim .inr fun hc => .inl hc.1)
  done_outcome := fun hp => by cases hp
  run_has_module := fun _ => hstep.elim (fun hr => h.run_has_module (.inl hr)) fun hc => hc.2
  config_counts := fun hp => by cases hp

/-- While a run is on there is no fatal code (R33). -/
theorem Inv.fatalCode_of_running {s : State} (h : Inv s) (hrun : s.phase = .running) : s.fatalCode = .noFault := by
  by_contra hcode
  cases hrun.symm.trans (h.fatal_code.mpr hcode)

/-- A run that ends with an outcome other than CORRUPT leaves the record at 0 (R39, R345). -/
theorem Inv.endRun {s : State} (h : Inv s) (hrun : s.phase = .running) {o : RunOutcome} (hnone : o ≠ .none)
    (hcorrupt : o ≠ .corrupt) : Inv (s.endRun o) where
  __ := h
  fatal_code := ⟨fun hp => (by cases hp), fun hcode => absurd (h.fatalCode_of_running hrun) hcode⟩
  no_outcome := fun hp => by rcases hp with hp | hp <;> cases hp
  done_outcome := fun _ => hnone
  run_has_module := fun _ => h.run_has_module (.inl hrun)
  config_counts := fun hp => by cases hp
  record_zero := fun _ => h.record_zero (by rw [h.no_outcome (.inr hrun)]; decide)
  record_corrupt := fun hc => absurd hc hcorrupt

/-- A run that ends CORRUPT names the frame and a registered module (R269). -/
theorem Inv.endCorrupt {s : State} (h : Inv s) (hrun : s.phase = .running) {m : Nat} {x : Module}
    (hx : s.modules[m]? = some x) : Inv (s.endCorrupt m) where
  __ := h
  fatal_code := ⟨fun hp => (by cases hp), fun hcode => absurd (h.fatalCode_of_running hrun) hcode⟩
  no_outcome := fun hp => by rcases hp with hp | hp <;> cases hp
  done_outcome := fun _ hno => by cases hno
  run_has_module := fun _ => h.run_has_module (.inl hrun)
  config_counts := fun hp => by cases hp
  record_zero := fun hno => absurd rfl hno
  record_corrupt := fun _ => ⟨rfl, rfl, m, x, hx, rfl, by simp [State.endCorrupt, State.endRun, hx]⟩

/-- Both counters grow by one frame (R267). -/
theorem Inv.countFrame {s : State} (h : Inv s) (hrun : s.phase = .running) : Inv s.countFrame where
  __ := h
  config_counts := fun hp => by cases hrun.symm.trans hp
  byte_count := by
    show s.byteCount + BitVec.ofNat 64 (frameBytes s) = (s.frameCount + 1) * BitVec.ofNat 64 (frameBytes s)
    rw [h.byte_count]
    ring
  record_corrupt := fun hc => by cases (h.no_outcome (.inr hrun)).symm.trans hc

theorem Inv.checkCeiling {s : State} (h : Inv s) (hrun : s.phase = .running) : Inv s.checkCeiling := by
  unfold State.checkCeiling
  split
  · exact h.endRun hrun (by decide) (by decide)
  · exact h

theorem Inv.acceptFrame {s : State} (h : Inv s) (hrun : s.phase = .running) (b : List Byte) :
    Inv (s.acceptFrame b) :=
  (((h.sinkWrite b).countFrame hrun).emit _).checkCeiling hrun

/-- The module at which the loop stops is registered (R269). -/
theorem validateFrom_corrupt_registered {k m j : Nat} {s t : State} (h : validateFrom k m s = .corrupt j t) :
    ∃ x, t.modules[j]? = some x := by
  induction k generalizing m s with
  | zero => cases h
  | succ k ih =>
    rw [validateFrom] at h
    split at h
    · cases h
    · rename_i x hx
      split at h
      · cases h
      · rename_i u v hv
        split at h
        · exact ih h
        · cases h
          obtain ⟨y, hy, _⟩ := module_of_staticParts (validateModule_staticParts hx hv) hx
          exact ⟨y, hy⟩

theorem FrameEnds.inv {s u : State} (hends : FrameEnds s u) (h : Inv s) (hstep : canStep s) : Inv u := by
  have hloop := validateFrom_preserves (P := fun t => Inv t ∧ t.phase = .running)
    (fun _ _ _ _ _ ht hx hv => ⟨ht.1.validateModule hx hv, (validateModule_onlyValidated hv).phase.trans ht.2⟩)
    s.modules.length 0
  have hread : ∀ (b : List Byte) st, Inv ((s.withRead st).withFrame (decodeFrame b)) ∧
      ((s.withRead st).withFrame (decodeFrame b)).phase = .running := fun b st =>
    ⟨(h.withRead hstep st).withFrame _, rfl⟩
  cases hends with
  | @short b st => exact (h.withRead hstep st).endRun rfl (by decide) (by decide)
  | @corrupt b st m v _ _ hv =>
    obtain ⟨hinv, hrun⟩ := (hloop _ (hread b st)).2 m v hv
    obtain ⟨x, hx⟩ := validateFrom_corrupt_registered hv
    exact hinv.endCorrupt hrun hx
  | @accepted b st v _ _ hv =>
    obtain ⟨hinv, hrun⟩ := (hloop _ (hread b st)).1 v hv
    exact hinv.acceptFrame hrun b

/-! ### Every step -/

theorem Effect.inv {i : Instr} {s t : State} (heffect : Effect i s t) (h : Inv s) : Inv t := by
  cases heffect with
  | refuse | readReg => exact h.respond _
  | raise _ hcode => exact h.raise hcode
  | reset => exact (Inv.resetRegisters s).answer 0
  | setConfig => exact (h.setConfig _).answer _
  | setCeiling => exact h.of_eq_elsewhere rfl
  | addModule hphase hroom hbuild => exact (h.addModule hphase hroom (builtInv_buildDefinition hbuild)).answer _
  | build _ hbuild => exact (h.build (builtInv_buildDefinition hbuild)).answer _
  | @validate m frame x _ u v _ hx hv => exact ((h.withFrame frame).validateModule hx hv).answer _
  | collect => exact h.answer _
  | waits => exact h
  | readError _ hstep _ => exact (h.withRead hstep _).raise (by decide)
  | frameDone _ hstep hends => exact (hends.inv h hstep).answer _
  | runGoesOn hstep hends _ => exact (hends.inv h hstep).resultStatus
  | letter => exact h.withLayout _
  | letterFault _ _ hcode => exact (h.withLayout _).raise hcode

/-- Settles O55, by what a step can do: each named update of the state keeps the invariant. -/
theorem stepKeepsInvariant : Obligations.StepKeepsInvariant := by
  intro s t h hstep
  rcases step_next_cases hstep with rfl | ⟨st, rfl⟩ | ⟨lay, ⟨i, heffect⟩ | ⟨e, rfl⟩⟩
  · exact h
  · exact h.bind st
  · exact heffect.inv (h.withLayout lay)
  · exact (h.withLayout lay).undecodable e

end Sys2Proof.Machine
end

section
/-! One frame's step in full (R262, R265 to R269): the state after the validations of the first k modules, the
module loop as a walk over those states, and the two ends of a whole frame. -/

namespace Sys2Proof.Machine

open Sys2Proof.Statement

/-! ### The validations of the first modules -/

/-- What the validation of module k on the frame f gives, if there is such a module and its slice lies in the frame. -/
def resultAt (s : State) (f : List Word) (k : Nat) : Option Validation := s.modules[k]?.bind (moduleResult s f k)

/-- s after the validations of its first k modules on the frame f, in registration order (R265). -/
def State.validated (s : State) (f : List Word) : Nat → State
  | 0 => s.withFrame f
  | k + 1 =>
    match resultAt s f k with
    | some v => (s.validated f k).withValidation k v
    | none => s.validated f k

variable {s : State} {f : List Word}

theorem resultAt_eq {k : Nat} {x : Module} (hx : s.modules[k]? = some x) : resultAt s f k = moduleResult s f k x := by
  simp [resultAt, hx]

theorem validated_succ_some {k : Nat} {v : Validation} (h : resultAt s f k = some v) :
    s.validated f (k + 1) = (s.validated f k).withValidation k v := by
  simp [State.validated, h]

theorem validated_succ_none {k : Nat} (h : resultAt s f k = none) : s.validated f (k + 1) = s.validated f k := by
  simp [State.validated, h]

theorem validated_onlyValidated (k : Nat) : OnlyValidated (s.withFrame f) (s.validated f k) := by
  induction k with
  | zero => exact onlyValidated_refl _
  | succ k ih =>
    cases h : resultAt s f k with
    | none => rw [validated_succ_none h]; exact ih
    | some v => rw [validated_succ_some h]; exact onlyValidated_trans ih (onlyValidated_withValidation k v _)

/-- A module that has not been validated yet is as it was. -/
theorem validated_modules_of_le {k m : Nat} (hkm : k ≤ m) : (s.validated f k).modules[m]? = s.modules[m]? := by
  induction k with
  | zero => rfl
  | succ k ih =>
    cases h : resultAt s f k with
    | none => rw [validated_succ_none h]; exact ih (by omega)
    | some v =>
      rw [validated_succ_some h, State.withValidation_modules, List.getElem?_set_ne (by omega)]
      exact ih (by omega)

/-- A module that has been validated holds what its own validation left. -/
theorem validated_modules_of_lt {k m : Nat} {v : Validation} (hmk : m < k) (hv : resultAt s f m = some v) :
    (s.validated f k).modules[m]? = some v.module := by
  induction k with
  | zero => omega
  | succ k ih =>
    rcases Nat.lt_or_eq_of_le (Nat.le_of_lt_succ hmk) with hlt | rfl
    · cases h : resultAt s f k with
      | none => rw [validated_succ_none h]; exact ih hlt
      | some w =>
        rw [validated_succ_some h, State.withValidation_modules, List.getElem?_set_ne (by omega)]
        exact ih hlt
    · obtain ⟨x, hx, _⟩ := Option.bind_eq_some_iff.mp hv
      obtain ⟨hm, _⟩ := List.getElem?_eq_some_iff.mp hx
      have hlen : m < (s.validated f m).modules.length := by
        rw [(validated_onlyValidated m).2]
        exact hm
      rw [validated_succ_some hv, State.withValidation_modules, List.getElem?_set_self hlen]

/-- One more module's place in the list with positions. -/
theorem zipIdx_take_succ (xs : List Module) (k : Nat) :
    (xs.take (k + 1)).zipIdx = (xs.take k).zipIdx ++ (xs[k]?.toList.map fun x => (x, k)) := by
  rcases Nat.lt_or_ge k xs.length with hlt | hge
  · rw [List.take_add_one, List.zipIdx_append, List.getElem?_eq_getElem hlt]
    simp [Nat.min_eq_left (Nat.le_of_lt hlt)]
  · simp [List.take_of_length_le hge, List.take_of_length_le (Nat.le_succ_of_le hge), List.getElem?_eq_none hge]

theorem eventsOfFirst_succ (k : Nat) :
    eventsOfFirst s f (k + 1) = eventsOfFirst s f k ++ (resultAt s f k).elim [] (·.events) := by
  rw [eventsOfFirst, zipIdx_take_succ, List.flatMap_append, eventsOfFirst, resultAt]
  cases s.modules[k]? with
  | none => simp
  | some x => cases h : moduleResult s f k x <;> simp [h]

theorem violationsOfFirst_succ (k : Nat) :
    violationsOfFirst s f (k + 1) = violationsOfFirst s f k + (resultAt s f k).elim 0 (·.violation.toNat) := by
  rw [violationsOfFirst, zipIdx_take_succ, List.countP_append, violationsOfFirst, resultAt]
  cases s.modules[k]? with
  | none => simp
  | some x =>
    cases h : moduleResult s f k x with
    | none => simp [h]
    | some v => cases hv : v.violation <;> simp [h, hv]

theorem validated_diag (k : Nat) : (s.validated f k).diag = s.diag ++ eventsOfFirst s f k := by
  induction k with
  | zero => simp [State.validated, State.withFrame, eventsOfFirst]
  | succ k ih =>
    rw [eventsOfFirst_succ, ← List.append_assoc, ← ih]
    cases h : resultAt s f k with
    | none => simp [validated_succ_none h]
    | some v => simp [validated_succ_some h]

theorem validated_bsErrTotal (k : Nat) :
    (s.validated f k).bsErrTotal = s.bsErrTotal + BitVec.ofNat 64 (violationsOfFirst s f k) := by
  induction k with
  | zero => simp [State.validated, State.withFrame, violationsOfFirst]
  | succ k ih =>
    rw [violationsOfFirst_succ, BitVec.ofNat_add, ← BitVec.add_assoc, ← ih]
    cases h : resultAt s f k with
    | none => simp [validated_succ_none h]
    | some v => cases hv : v.violation <;> simp [validated_succ_some h, hv]

/-- A validation is ok exactly when no word failed (R181). -/
theorem validateSlice_ok_iff {p : Params} {config : DWord} {m : Nat} {x : Module} {slice : List Word} {w : Validation}
    (h : validateSlice p config m x slice = .ok w) : w.verdict.ok = true ↔ w.verdict.ec = 0 := by
  rcases validateSlice_cases p config m x slice with ⟨_, hv⟩ | ⟨_, _, hv⟩ | ⟨_, _, _, _, hv⟩ | ⟨_, _, hv⟩ <;>
    rw [hv] at h <;> cases h
  · exact iff_of_true rfl rfl
  · exact beq_iff_eq
  · exact beq_iff_eq

/-- What stands behind a module's result: its slice, and the validation of it. -/
theorem moduleResult_eq_some {k : Nat} {x : Module} {v : Validation} (h : moduleResult s f k x = some v) :
    ∃ slice, frameSlice f (x.offset.toNat / 4) x.table.length = some slice ∧
      validateSlice s.params s.config k x slice = .ok v := by
  unfold moduleResult at h
  split at h
  · cases h
  · rename_i slice hslice
    refine ⟨slice, hslice, ?_⟩
    cases hv : validateSlice s.params s.config k x slice with
    | error e => rw [hv] at h; cases h
    | ok w => rw [hv] at h; cases h; rfl

/-- Modules that are all ok add nothing to ERR_TOTAL (R37, R265). -/
theorem validated_errTotal {k : Nat} (h : ∀ m < k, ∀ v, resultAt s f m = some v → v.verdict.ok = true) :
    (s.validated f k).errTotal = s.errTotal := by
  induction k with
  | zero => rfl
  | succ k ih =>
    have hprev := ih fun m hm => h m (Nat.lt_succ_of_lt hm)
    cases hres : resultAt s f k with
    | none => rw [validated_succ_none hres]; exact hprev
    | some v =>
      obtain ⟨x, hx, hmod⟩ := Option.bind_eq_some_iff.mp hres
      obtain ⟨slice, _, hv⟩ := moduleResult_eq_some hmod
      have hec : v.verdict.ec = 0 := (validateSlice_ok_iff hv).mp (h k (Nat.lt_succ_self k) v hres)
      rw [validated_succ_some hres, State.withValidation_errTotal, hprev, hec]
      simp

/-! ### The module loop -/

/-- The loop's next validation is the one that `validated` makes. -/
theorem validateModule_validated {k : Nat} {x : Module} {v : Validation} (hx : s.modules[k]? = some x)
    (hv : moduleResult s f k x = some v) :
    validateModule k x (s.validated f k) = .ok (s.validated f (k + 1), v.verdict) := by
  obtain ⟨slice, hslice, hval⟩ := moduleResult_eq_some hv
  have hkept := (validated_onlyValidated (s := s) (f := f) k).1
  have hframe : (s.validated f k).frame = f := by rw [hkept]; rfl
  have hparams : (s.validated f k).params = s.params := by rw [hkept]; rfl
  have hconfig : (s.validated f k).config = s.config := by rw [hkept]; rfl
  rw [validated_succ_some ((resultAt_eq hx).trans hv)]
  simp only [validateModule, hframe, hslice, hparams, hconfig, hval]

/-- The module loop over modules that are all ok. -/
theorem validateFrom_of_ok {k m : Nat} (h : ∀ j, m ≤ j → j < m + k →
      ∃ x v, s.modules[j]? = some x ∧ moduleResult s f j x = some v ∧ v.verdict.ok = true) (rest : Nat) :
    validateFrom (k + rest) m (s.validated f m) = validateFrom rest (m + k) (s.validated f (m + k)) := by
  induction k generalizing m with
  | zero => simp
  | succ k ih =>
    obtain ⟨x, v, hx, hv, hok⟩ := h m (Nat.le_refl m) (by omega)
    have hnext := ih (m := m + 1) fun j hmj hjk => h j (by omega) (by omega)
    rw [show k + 1 + rest = (k + rest) + 1 by omega, validateFrom, validated_modules_of_le (Nat.le_refl m), hx]
    simp only [validateModule_validated hx hv, hok, if_true]
    rw [hnext, show m + 1 + k = m + (k + 1) by omega]

/-- A frame of which every module is ok. -/
theorem validateFrom_all_ok (h : ∀ m x, s.modules[m]? = some x →
      ∃ v, moduleResult s f m x = some v ∧ v.verdict.ok = true) :
    validateFrom s.modules.length 0 (s.withFrame f) = .accepted (s.validated f s.modules.length) := by
  have hloop := validateFrom_of_ok (s := s) (f := f) (k := s.modules.length) (m := 0) (fun j _ hj => by
    have hx : s.modules[j]? = some (s.modules[j]'(by omega)) := List.getElem?_eq_getElem _
    obtain ⟨v, hv, hok⟩ := h j _ hx
    exact ⟨_, v, hx, hv, hok⟩) 0
  simpa [State.validated, validateFrom] using hloop

/-- A frame of which module m is the first that is not ok (R269). -/
theorem validateFrom_first_bad {m : Nat} {x : Module} {v : Validation}
    (h : ∀ k y, k < m → s.modules[k]? = some y → ∃ w, moduleResult s f k y = some w ∧ w.verdict.ok = true)
    (hx : s.modules[m]? = some x) (hv : moduleResult s f m x = some v) (hbad : v.verdict.ok = false) :
    validateFrom s.modules.length 0 (s.withFrame f) = .corrupt m (s.validated f (m + 1)) := by
  obtain ⟨hm, _⟩ := List.getElem?_eq_some_iff.mp hx
  have hloop := validateFrom_of_ok (s := s) (f := f) (k := m) (m := 0) (fun j _ hj => by
    have hy : s.modules[j]? = some (s.modules[j]'(by omega)) := List.getElem?_eq_getElem _
    obtain ⟨w, hw, hok⟩ := h j _ (by omega) hy
    exact ⟨_, w, hy, hw, hok⟩) (s.modules.length - m - 1 + 1)
  rw [show m + (s.modules.length - m - 1 + 1) = s.modules.length by omega, Nat.zero_add] at hloop
  rw [show s.withFrame f = s.validated f 0 from rfl, hloop, validateFrom, validated_modules_of_le (Nat.le_refl m), hx]
  simp [validateModule_validated hx hv, hbad]

/-! ### STEP and RUN on a frame that is over -/

/-- A STEP that may read does what its read gives (R262). -/
theorem frameStep_of_bytes {b : List Byte} {st : InputStream} (hstep : canStep s)
    (hread : streamRead (frameBytes s) s.input = .bytes b st) : frameStep s = frameBody b (s.withRead st) := by
  have hm : ¬(s.phase = .config ∧ s.modules.length = 0) := fun ⟨hc, hlen⟩ => by
    rcases hstep with hr | ⟨_, hne⟩
    · cases hc.symm.trans hr
    · exact hne (List.length_eq_zero_iff.mp hlen)
  rw [frameStep, if_neg hm, hread]
  rfl

theorem frameBody_of_accepted {b : List Byte} {u : State} (hlen : b.length = frameBytes s)
    (h : validateFrom s.modules.length 0 (s.withFrame (decodeFrame b)) = .accepted u) :
    frameBody b s = .finished (u.acceptFrame b) := by
  rw [State.withFrame] at h
  rw [frameBody, if_neg (by omega), h]

theorem frameBody_of_corrupt {b : List Byte} {u : State} {m : Nat} (hlen : b.length = frameBytes s)
    (h : validateFrom s.modules.length 0 (s.withFrame (decodeFrame b)) = .corrupt m u) :
    frameBody b s = .finished (u.endCorrupt m) := by
  rw [State.withFrame] at h
  rw [frameBody, if_neg (by omega), h]

/-- Behind the checks of R335, where STEP may read. -/
theorem guarded_of_canStep (hstep : canStep s) (body : Host.Outcome State Fault Refusal) :
    guarded true [.config, .running] s body = body := by
  rcases hstep with hr | ⟨hc, _⟩
  · exact guarded_of_legal rfl (by simp [hr]) (by simp [hr])
  · exact guarded_of_legal rfl (by simp [hc]) (by simp [hc])

/-- STEP answers with STATUS (R262). -/
theorem exec_step_of_finished {u : State} (hstep : canStep s) (h : frameStep s = .finished u) :
    exec .step s = .next (u.answer (statusWord u)) := by
  show execStep s = _
  rw [execStep, guarded_of_canStep hstep, h]

/-- RUN does too, but while the run goes on it is not answered (R272; log entry 6). -/
theorem exec_run_of_finished {u : State} (hstep : canStep s) (h : frameStep s = .finished u) :
    exec .run s = .next (if u.phase = .running then u.resultStatus else u.answer (statusWord u)) := by
  show execRun s = _
  rw [execRun, guarded_of_canStep hstep, h]
  exact (apply_ite Host.Outcome.next _ _ _).symm

/-! ### The corrupt frame -/

/-- The end of a run at a registered module, written out (R269). -/
theorem endCorrupt_eq {m : Nat} {x : Module} (hx : s.modules[m]? = some x) :
    s.endCorrupt m =
      { s with
        phase := .done, outcome := .corrupt
        corruptFrame := s.frameCount + 1, corruptModule := BitVec.ofNat 64 m
        corruptStreamOffset := s.byteCount, corruptModuleOffset := x.offset
        diag := s.diag ++ [.summary .corrupt s.errTotal s.frameCount] } := by
  rw [State.endCorrupt, hx]
  rfl

/-- A state after validations, written out. -/
theorem validated_eq (k : Nat) :
    s.validated f k =
      { s with
        frame := f
        modules := (s.validated f k).modules
        errTotal := (s.validated f k).errTotal
        bsErrTotal := s.bsErrTotal + BitVec.ofNat 64 (violationsOfFirst s f k)
        diag := s.diag ++ eventsOfFirst s f k } := by
  have hkept := (validated_onlyValidated (s := s) (f := f) k).1
  rw [validated_bsErrTotal, validated_diag] at hkept
  exact hkept

/-- The validation that `moduleResult` names writes no OFFSET (R40). -/
theorem moduleResult_offset {k : Nat} {x : Module} {v : Validation} (h : moduleResult s f k x = some v) :
    v.module.offset = x.offset := by
  obtain ⟨slice, _, hv⟩ := moduleResult_eq_some h
  exact (staticPart_eq_iff.mp (validateSlice_staticPart hv)).2.1

/-- ERR_TOTAL after a first module that is not ok (R37, R265). -/
theorem validated_errTotal_first_bad {m : Nat} {x : Module} {v : Validation}
    (h : ∀ k y, k < m → s.modules[k]? = some y → ∃ w, moduleResult s f k y = some w ∧ w.verdict.ok = true)
    (hx : s.modules[m]? = some x) (hv : moduleResult s f m x = some v) :
    (s.validated f (m + 1)).errTotal = s.errTotal + v.verdict.ec.zeroExtend 64 := by
  rw [validated_succ_some ((resultAt_eq hx).trans hv), State.withValidation_errTotal, validated_errTotal]
  intro k hk w hw
  obtain ⟨y, hy, hyw⟩ := Option.bind_eq_some_iff.mp hw
  obtain ⟨w', hw', hok⟩ := h k y hk hy
  rwa [Option.some.inj (hyw.symm.trans hw')]

/-- The end of a run from s whose first module that is not ok on the frame f is m, with register set x and validation v
(R39, R265, R269, R273); `modules` are the register sets that the validations left. -/
def corruptEnd (s : State) (f : List Word) (st : InputStream) (m : Nat) (x : Module) (v : Validation)
    (modules : List Module) : State :=
  { s with
    phase := .done, outcome := .corrupt
    corruptFrame := s.frameCount + 1, corruptModule := BitVec.ofNat 64 m
    corruptStreamOffset := s.byteCount, corruptModuleOffset := x.offset
    frame := f, input := st, modules := modules
    errTotal := s.errTotal + v.verdict.ec.zeroExtend 64
    bsErrTotal := s.bsErrTotal + BitVec.ofNat 64 (violationsOfFirst s f (m + 1))
    diag := s.diag ++ eventsOfFirst s f (m + 1) ++
      [.summary .corrupt (s.errTotal + v.verdict.ec.zeroExtend 64) s.frameCount] }

/-- Settles O45: the loop stops at the state after the validations of modules 0 to m, and the run ends there. -/
theorem firstBadModuleEndsTheRun : Obligations.FirstBadModuleEndsTheRun := by
  intro i s b st m x v hi hstep hread hlen hgood hx hv hbad
  have hresult : resultAt (s.withRead st) (decodeFrame b) m = some v := (resultAt_eq (s := s.withRead st) hx).trans hv
  have hloop := validateFrom_first_bad (s := s.withRead st) hgood hx hv hbad
  have herr := validated_errTotal_first_bad (s := s.withRead st) hgood hx hv
  have hu := validated_eq (s := s.withRead st) (f := decodeFrame b) (m + 1)
  have hmodule := validated_modules_of_lt (Nat.lt_succ_self m) hresult
  have hlater : ∀ k, m < k → ((s.withRead st).validated (decodeFrame b) (m + 1)).modules[k]? = s.modules[k]? :=
    fun k hk => validated_modules_of_le hk
  have hearlier : ∀ k y w, k < m → s.modules[k]? = some y → moduleResult s (decodeFrame b) k y = some w →
      ((s.withRead st).validated (decodeFrame b) (m + 1)).modules[k]? = some w.module := fun k y w hk hy hw =>
    validated_modules_of_lt (Nat.lt_succ_of_lt hk) ((resultAt_eq (s := s.withRead st) hy).trans hw)
  rw [herr] at hu
  generalize (s.withRead st).validated (decodeFrame b) (m + 1) = u at *
  have hfinished : frameStep s = .finished (u.endCorrupt m) :=
    (frameStep_of_bytes hstep hread).trans (frameBody_of_corrupt (s := s.withRead st) hlen hloop)
  refine ⟨(u.endCorrupt m).answer (statusWord (u.endCorrupt m)), ?_, ?_, hmodule, hlater, hearlier⟩
  · rcases hi with rfl | rfl
    · exact exec_step_of_finished hstep hfinished
    · exact exec_run_of_finished hstep hfinished
  · have hend : u.endCorrupt m = corruptEnd s (decodeFrame b) st m x v u.modules := by
      rw [endCorrupt_eq hmodule, moduleResult_offset hv]
      generalize u.modules = ms at hu ⊢
      rw [hu]
      rfl
    have hanswer := congrArg (answered (statusWord (u.endCorrupt m))) hend
    exact hanswer

/-! ### The accepted frame -/

/-- The accepted frame that s has just validated ends the run (R268). -/
def reachesCeiling (s : State) : Bool := decide (s.config.getLsbD 4 = true ∧ s.ceiling.toNat < (s.frameCount + 1).toNat)

/-- The Progress event, if the frame that s has just validated brings it (R271). -/
def progressDue (s : State) : List DiagEvent :=
  if s.params.progressPeriod ≠ 0 ∧ (s.frameCount + 1).toNat % s.params.progressPeriod = 0 then
    [.progress (s.frameCount + 1) (s.byteCount + BitVec.ofNat 64 (frameBytes s))]
  else []

/-- An accepted frame, written out (R266 to R268, R271). -/
theorem acceptFrame_eq (b : List Byte) (s : State) :
    s.acceptFrame b =
      { s with
        phase := if reachesCeiling s then .done else s.phase
        outcome := if reachesCeiling s then .completed else s.outcome
        sink := if s.params.sinkPresent then s.sink ++ b else s.sink
        frameCount := s.frameCount + 1
        byteCount := s.byteCount + BitVec.ofNat 64 (frameBytes s)
        diag := s.diag ++ progressDue s ++
          if reachesCeiling s then [.summary .completed s.errTotal (s.frameCount + 1)] else [] } := by
  rw [State.acceptFrame, State.checkCeiling]
  by_cases h : s.config.getLsbD 4 = true ∧ s.ceiling.toNat < (s.frameCount + 1).toNat
  · rw [show reachesCeiling s = true from decide_eq_true h, if_pos]
    · rfl
    · exact h
  · rw [show reachesCeiling s = false from decide_eq_false h, if_neg]
    · simp only [Bool.false_eq_true, if_false, List.append_nil]
      rfl
    · exact h

/-- The state in which an accepted frame, read as the bytes b, leaves s (R265 to R268, R271); `modules` are the
register sets that the validations left. -/
def acceptedEnd (s : State) (b : List Byte) (st : InputStream) (modules : List Module) : State :=
  { s with
    phase := if reachesCeiling s then .done else .running
    outcome := if reachesCeiling s then .completed else s.outcome
    sink := if s.params.sinkPresent then s.sink ++ b else s.sink
    frameCount := s.frameCount + 1
    byteCount := s.byteCount + BitVec.ofNat 64 (frameBytes s)
    frame := decodeFrame b, input := st, modules := modules
    bsErrTotal := s.bsErrTotal + BitVec.ofNat 64 (violationsOfFirst s (decodeFrame b) s.modules.length)
    diag := s.diag ++ eventsOfFirst s (decodeFrame b) s.modules.length ++ progressDue s ++
      if reachesCeiling s then [.summary .completed s.errTotal (s.frameCount + 1)] else [] }

/-- The frame step on a frame of which every module is ok: the accepted state, with the modules as their validations left
them. -/
theorem frameStep_of_all_ok {b : List Byte} {st : InputStream} (hstep : canStep s)
    (hread : streamRead (frameBytes s) s.input = .bytes b st) (hlen : b.length = frameBytes s)
    (hgood : ∀ m x, s.modules[m]? = some x → ∃ v, moduleResult s (decodeFrame b) m x = some v ∧ v.verdict.ok = true) :
    ∃ modules,
      frameStep s = .finished (acceptedEnd s b st modules) ∧
      ∀ m x v, s.modules[m]? = some x → moduleResult s (decodeFrame b) m x = some v → modules[m]? = some v.module := by
  have hloop : validateFrom s.modules.length 0 ((s.withRead st).withFrame (decodeFrame b)) =
      .accepted ((s.withRead st).validated (decodeFrame b) s.modules.length) :=
    validateFrom_all_ok (s := s.withRead st) hgood
  have hu := validated_eq (s := s.withRead st) (f := decodeFrame b) s.modules.length
  have hmodules : ∀ m x v, s.modules[m]? = some x → moduleResult s (decodeFrame b) m x = some v →
      ((s.withRead st).validated (decodeFrame b) s.modules.length).modules[m]? = some v.module := fun m x v hx hv =>
    validated_modules_of_lt (List.getElem?_eq_some_iff.mp hx).1 ((resultAt_eq (s := s.withRead st) hx).trans hv)
  have herr : ((s.withRead st).validated (decodeFrame b) s.modules.length).errTotal = s.errTotal :=
    validated_errTotal fun m _ v hv => by
      obtain ⟨x, hx, hxv⟩ := Option.bind_eq_some_iff.mp hv
      obtain ⟨w, hw, hok⟩ := hgood m x hx
      cases hw.symm.trans hxv
      exact hok
  have hparts := validateFrom_accepted_staticParts hloop
  rw [herr] at hu
  generalize (s.withRead st).validated (decodeFrame b) s.modules.length = u at *
  have hbytes : frameBytes u = frameBytes s := frameBytes_eq_of_staticParts hparts
  have hreach : reachesCeiling u = reachesCeiling s := by rw [hu]; rfl
  have hprogress : progressDue u = progressDue s := by rw [progressDue, hbytes, hu]; rfl
  refine ⟨u.modules, ?_, hmodules⟩
  rw [frameStep_of_bytes hstep hread, frameBody_of_accepted (s := s.withRead st) hlen hloop, acceptFrame_eq, hreach,
    hprogress, hbytes]
  generalize u.modules = ms at hu ⊢
  rw [hu]
  rfl

/-- Settles O44: the state is written out by `acceptedEnd`; RUN differs from STEP only where the run goes on. -/
theorem goodFrameIsAccepted : Obligations.GoodFrameIsAccepted := by
  intro s b st hstep hread hlen hgood
  obtain ⟨modules, hfinished, hmodules⟩ := frameStep_of_all_ok hstep hread hlen hgood
  have hrun := exec_run_of_finished hstep hfinished
  refine ⟨_, exec_step_of_finished hstep hfinished, ?_, rfl, rfl, rfl, ?_, rfl, rfl, rfl, rfl, ?_, hmodules, rfl, rfl,
    rfl⟩
  · exact hrun
  · cases hc : reachesCeiling s with
    | true => rw [if_pos (of_decide_eq_true hc)]; simp [acceptedEnd, hc]
    | false => rw [if_neg (of_decide_eq_false hc)]; simp [acceptedEnd, hc]
  · cases hc : reachesCeiling s <;> simp [acceptedEnd, hc, progressDue]

end Sys2Proof.Machine
end

section
/-! The data ports of a run: the binding of a stream and the bytes a read gives (R71), what an instruction does to
the input stream (R50, R76), and the words that a read frame leaves in F (R72, R73). -/

namespace Sys2Proof.Machine

open Sys2Proof.Statement

/-! ### The stream -/

/-- Settles O6. -/
theorem bindingStartsTheStream : Obligations.BindingStartsTheStream := by
  intro s st q ht hq
  simp [step, fetch_bindStream ht hq, State.bind, hq]

/-- A stream that has no cycle supplies its bytes and no more (R71). -/
theorem byteAt_of_no_cycle {st : InputStream} (h : ∀ cycle, st.tail ≠ .repeats cycle) (i : Nat) :
    st.byteAt i = st.data[i]? := by
  unfold InputStream.byteAt
  split
  · rfl
  · rename_i hge
    rw [List.getElem?_eq_none (Nat.le_of_not_lt hge)]
    cases ht : st.tail with
    | ended | stalls => rfl
    | repeats cycle => exact absurd ht (h cycle)

theorem byteAt_of_lt {st : InputStream} {i : Nat} (h : i < st.data.length) : st.byteAt i = st.data[i]? := by
  rw [InputStream.byteAt, if_pos h]

/-- An endless stream supplies its bytes and then its cycle (log entry 10). -/
theorem byteAt_of_cycle {st : InputStream} {cycle : List Byte} (h : st.tail = .repeats cycle) (i : Nat) :
    st.byteAt i =
      if i < st.data.length then st.data[i]? else cycle[(i - st.data.length) % cycle.length]? := by
  rw [InputStream.byteAt, h]

theorem byteAt_isSome_of_cycle {st : InputStream} {cycle : List Byte} (h : st.tail = .repeats cycle)
    (hne : cycle ≠ []) (i : Nat) : (st.byteAt i).isSome = true := by
  rw [byteAt_of_cycle h]
  split
  · simpa
  · simpa using Nat.mod_lt _ (List.length_pos_iff.mpr hne)

theorem filterMap_getElem?_range {α : Type} (l : List α) (n : Nat) :
    (List.range n).filterMap (fun k => l[k]?) = l.take n := by
  induction n with
  | zero => rfl
  | succ n ih => cases h : l[n]? <;> simp [List.range_succ, List.take_add_one, ih, h]

/-- Where the stream's own bytes are all that it supplies, a read gives the next ones (R71). -/
theorem window_eq_take {n : Nat} {st : InputStream}
    (h : ∀ k < n, st.byteAt (st.pos + k) = st.data[st.pos + k]?) : st.window n = (st.data.drop st.pos).take n := by
  calc st.window n = (List.range n).filterMap fun k => (st.data.drop st.pos)[k]? :=
        List.filterMap_congr fun k hk => by rw [h k (List.mem_range.mp hk), List.getElem?_drop]
    _ = (st.data.drop st.pos).take n := filterMap_getElem?_range _ n

/-- Where the stream supplies every byte asked for, a read gives them all. -/
theorem window_of_isSome {n : Nat} {st : InputStream} (h : ∀ k < n, (st.byteAt (st.pos + k)).isSome = true) :
    (st.window n).length = n ∧ ∀ k < n, (st.window n)[k]? = st.byteAt (st.pos + k) := by
  have hget : ∀ k < n, st.byteAt (st.pos + k) = some ((st.byteAt (st.pos + k)).getD 0) := fun k hk => by
    obtain ⟨b, hb⟩ := Option.isSome_iff_exists.mp (h k hk)
    simp [hb]
  have hmap : st.window n = (List.range n).map fun k => (st.byteAt (st.pos + k)).getD 0 :=
    List.filterMap_eq_map_iff_forall_eq_some.mpr fun k hk => hget k (List.mem_range.mp hk)
  refine ⟨by simp [hmap], fun k hk => ?_⟩
  rw [hget k hk, hmap, List.getElem?_map, List.getElem?_range hk]
  rfl

/-- A read that READ_ERROR does not name returns if it has all its bytes, or if the stream has ended (R71). -/
theorem streamRead_of_supplied {n : Nat} {st : InputStream} (hr : st.reads ∉ st.failing)
    (h : st.tail = .ended ∨ (st.window n).length = n) :
    streamRead n st =
      .bytes (st.window n) { st with pos := st.pos + (st.window n).length, reads := st.reads + 1 } := by
  rcases streamRead_cases n st with ⟨_, _, hlt, htail⟩ | ⟨_, hf⟩ | ⟨hread, _⟩
  · exact absurd h (not_or.mpr ⟨htail, Nat.ne_of_lt hlt⟩)
  · exact absurd hf hr
  · exact hread

/-- On a stream that neither ends nor supplies all the bytes, a read waits (R378). -/
theorem streamRead_of_short {n : Nat} {st : InputStream} (hr : st.reads ∉ st.failing) (htail : st.tail ≠ .ended)
    (h : (st.window n).length < n) : streamRead n st = .waits := by
  rw [streamRead, if_neg hr, if_pos ⟨h, htail⟩]

/-- Settles O58: a read gives the window at POS, which is a piece of the stream's own bytes unless a cycle follows
them. -/
theorem streamReadGivesTheNextBytes : Obligations.StreamReadGivesTheNextBytes := by
  intro n st
  refine ⟨fun hf => by rw [streamRead, if_pos hf], fun hr => ⟨fun h => ?_, fun hstall hn hlen => ?_, ?_⟩⟩
  · have hwindow : st.window n = (st.data.drop st.pos).take n := window_eq_take fun k hk => by
      rcases h with hend | hle
      · exact byteAt_of_no_cycle (by simp [hend]) _
      · exact byteAt_of_lt (by omega)
    have hlength : (st.window n).length = min n (st.data.length - st.pos) := by simp [hwindow]
    rw [streamRead_of_supplied hr (h.imp_right fun hle => by omega), hlength, hwindow]
  · have hwindow : st.window n = (st.data.drop st.pos).take n :=
      window_eq_take fun k _ => byteAt_of_no_cycle (by simp [hstall]) _
    refine streamRead_of_short hr (by simp [hstall]) ?_
    rw [hwindow, List.length_take, List.length_drop]
    omega
  · intro cycle hcycle hne
    obtain ⟨hlength, hbyte⟩ := window_of_isSome (n := n) fun k _ => byteAt_isSome_of_cycle hcycle hne (st.pos + k)
    refine ⟨st.window n, ?_, hlength, fun k hk => (hbyte k hk).trans (byteAt_of_cycle hcycle _)⟩
    rw [streamRead_of_supplied hr (.inr hlength), hlength]

/-! ### The read position -/

/-- A frame that is over has taken its one read off the stream, and nothing after the read touches it. -/
theorem FrameEnds.input {s u : State} (h : FrameEnds s u) :
    ∃ b, streamRead (frameBytes s) s.input = .bytes b u.input := by
  cases h with
  | short hread => exact ⟨_, hread⟩
  | corrupt hread _ hloop =>
    have hu := ((validateFrom_onlyValidated _ _ _).2 _ _ hloop).1
    exact ⟨_, by rw [hu]; exact hread⟩
  | accepted hread _ hloop =>
    have hu := ((validateFrom_onlyValidated _ _ _).1 _ hloop).1
    exact ⟨_, by rw [acceptFrame_input, hu]; exact hread⟩

/-- The stream after an instruction is the stream before it, or STEP or RUN has read a frame or failed to (R76). -/
theorem Effect.input {i : Instr} {s t : State} (h : Effect i s t) :
    t.input = s.input ∨
      ((i = .step ∨ i = .run) ∧
        (streamRead (frameBytes s) s.input = .error t.input ∨
          ∃ b, streamRead (frameBytes s) s.input = .bytes b t.input)) := by
  cases h with
  | refuse | raise | reset | setConfig | setCeiling | addModule | build | collect | waits | readReg | letter
  | letterFault => exact .inl rfl
  | validate _ _ hv =>
    left
    rw [(validateModule_onlyValidated hv).1]
    rfl
  | readError hi _ hread => exact .inr ⟨hi, .inl hread⟩
  | frameDone hi _ hends => exact .inr ⟨hi, .inr hends.input⟩
  | runGoesOn _ hends _ => exact .inr ⟨.inr rfl, .inr hends.input⟩

/-- Settles O51: the one read of a STEP or RUN moves POS by at most the frame it asks for. -/
theorem readPositionOnlyAdvances : Obligations.ReadPositionOnlyAdvances := by
  intro i s t h
  rcases (effect_of_exec h).input with hkept | ⟨hi, hread | ⟨b, hread⟩⟩
  · rw [hkept]
    exact ⟨Nat.le_refl _, Nat.le_add_right _ _, fun _ _ => rfl⟩
  · rw [streamRead_error hread]
    exact ⟨Nat.le_refl _, Nat.le_add_right _ _, fun hs hr => absurd hi (not_or.mpr ⟨hs, hr⟩)⟩
  · obtain ⟨_, hle, hinput⟩ := streamRead_bytes hread
    rw [hinput]
    exact ⟨Nat.le_add_right _ _, Nat.add_le_add_left hle _, fun hs hr => absurd hi (not_or.mpr ⟨hs, hr⟩)⟩

/-! ### The frame buffer -/

/-- A byte above the bits of a word that is below 2^k. -/
theorem or_shiftLeft_toNat {a : Word} {k : Nat} (ha : a.toNat < 2 ^ k) (hk : k ≤ 24) (b : Byte) :
    (a ||| b.zeroExtend 32 <<< k).toNat = a.toNat + 2 ^ k * b.toNat := by
  have hb : b.toNat < 2 ^ 8 := b.isLt
  have hfits : b.toNat <<< k < 2 ^ 32 := by
    rw [Nat.shiftLeft_eq]
    calc b.toNat * 2 ^ k < 2 ^ 8 * 2 ^ k := Nat.mul_lt_mul_of_pos_right hb (Nat.two_pow_pos k)
      _ ≤ 2 ^ 8 * 2 ^ 24 := Nat.mul_le_mul_left _ (Nat.pow_le_pow_right (by decide) hk)
  rw [BitVec.toNat_or, BitVec.toNat_shiftLeft, BitVec.toNat_setWidth, Nat.mod_eq_of_lt (hb.trans (by decide)),
    Nat.mod_eq_of_lt hfits, Nat.or_comm, ← Nat.shiftLeft_add_eq_or_of_lt ha, Nat.shiftLeft_eq, Nat.mul_comm,
    Nat.add_comm]

/-- LE32 as a number (R10). -/
theorem le32_toNat (b0 b1 b2 b3 : Byte) :
    (le32 b0 b1 b2 b3).toNat = b0.toNat + 2 ^ 8 * b1.toNat + 2 ^ 16 * b2.toNat + 2 ^ 24 * b3.toNat := by
  have hlow : (b0.zeroExtend 32).toNat = b0.toNat := by
    rw [BitVec.toNat_setWidth, Nat.mod_eq_of_lt (b0.isLt.trans (by decide))]
  have h0 := b0.isLt
  have h1 := b1.isLt
  have h2 := b2.isLt
  have hone := or_shiftLeft_toNat (a := b0.zeroExtend 32) (k := 8) (by omega) (by decide) b1
  have htwo := or_shiftLeft_toNat (k := 16) (hone.trans_lt (by omega)) (by decide) b2
  have hthree := or_shiftLeft_toNat (k := 24) (htwo.trans_lt (by omega)) (by decide) b3
  rw [le32, hthree, htwo, hone, hlow]

/-- Word i of a frame is made of its bytes 4i to 4i+3 (R72, R73). -/
theorem decodeFrame_getElem? {b : List Byte} {i : Nat} (h : 4 * i + 3 < b.length) :
    (decodeFrame b)[i]? = some (le32 b[4 * i] b[4 * i + 1] b[4 * i + 2] b[4 * i + 3]) := by
  induction b using decodeFrame.induct generalizing i with
  | case1 b0 b1 b2 b3 rest ih =>
    cases i with
    | zero => rfl
    | succ i =>
      rw [decodeFrame, List.getElem?_cons_succ, ih (by simp only [List.length_cons] at h; omega)]
      rfl
  | case2 b hshort =>
    match b with
    | b0 :: b1 :: b2 :: b3 :: rest => exact absurd rfl (hshort b0 b1 b2 b3 rest)
    | [] | [_] | [_, _] | [_, _, _] => simp at h

/-- Whatever a whole frame comes to, its words stay in the frame buffer. -/
theorem frameBody_finished_frame {b : List Byte} {s u : State} (hlen : b.length = frameBytes s)
    (h : frameBody b s = .finished u) : u.frame = decodeFrame b := by
  have hloop := validateFrom_onlyValidated s.modules.length 0 { s with frame := decodeFrame b }
  rcases frameBody_cases b s with ⟨hlt, _⟩ | ⟨_, ⟨_, _, hb⟩ | ⟨m, v, hv, hb⟩ | ⟨v, hv, hb⟩⟩
  · omega
  · cases hb.symm.trans h
  · cases hb.symm.trans h
    exact congrArg State.frame (hloop.2 m v hv).1
  · cases hb.symm.trans h
    rw [acceptFrame_eq]
    exact congrArg State.frame (hloop.1 v hv).1

/-- A STEP whose read returned finishes what the frame's bytes come to (R262). -/
theorem exec_step_next_of_bytes {s t : State} {b : List Byte} {st : InputStream} (hstep : canStep s)
    (hread : streamRead (frameBytes s) s.input = .bytes b st) (h : exec .step s = .next t) :
    ∃ u, frameBody b (s.withRead st) = .finished u ∧ t = u.answer (statusWord u) := by
  change execStep s = .next t at h
  rw [execStep, guarded_of_canStep hstep, frameStep_of_bytes hstep hread] at h
  rcases frameBody_cases b (s.withRead st) with ⟨_, hb⟩ | ⟨_, ⟨_, _, hb⟩ | ⟨_, _, _, hb⟩ | ⟨_, _, hb⟩⟩ <;>
    rw [hb] at h <;> cases h
  · exact ⟨_, hb, rfl⟩
  · exact ⟨_, hb, rfl⟩
  · exact ⟨_, hb, rfl⟩

/-- Settles O50: F holds the words decoded from the bytes read, each of four bytes. -/
theorem stepFillsFrameBuffer : Obligations.StepFillsFrameBuffer := by
  intro s t b st hstep hread hlen h
  obtain ⟨u, hu, rfl⟩ := exec_step_next_of_bytes hstep hread h
  have hbytes : b.length = 4 * frameWords s := hlen
  rw [State.answer_frame, frameBody_finished_frame (s := s.withRead st) hlen hu]
  refine ⟨by rw [decodeFrame_length]; omega, fun i hi => ?_⟩
  have hword : 4 * i + 3 < b.length := by omega
  refine ⟨b[4 * i], b[4 * i + 1], b[4 * i + 2], b[4 * i + 3], List.getElem?_eq_getElem _, List.getElem?_eq_getElem _,
    List.getElem?_eq_getElem _, List.getElem?_eq_getElem _, ?_⟩
  rw [decodeFrame_getElem? hword, Option.map_some, le32_toNat]

end Sys2Proof.Machine
end

section
/-! The invariant rules out the model's own stops (log entry 16): in a frame of FRAME_WORDS words every module finds its
slice, so every validation answers, and with it the module loop, every instruction and every step. -/

namespace Sys2Proof.Machine

/-! ### A validation answers -/

/-- The slice of a registered module ends within the frame (R78). -/
theorem sliceOffset_add_le {modules : List Module} {m : Nat} {x : Module} (hx : modules[m]? = some x) :
    sliceOffset modules m + 4 * x.table.length ≤ 4 * (modules.map fun y => y.table.length).sum := by
  obtain ⟨hm, rfl⟩ := List.getElem?_eq_some_iff.mp hx
  have hsplit : modules = modules.take m ++ modules[m] :: modules.drop (m + 1) := by
    rw [← List.drop_eq_getElem_cons hm, List.take_append_drop]
  have hsum := congrArg (fun ys => (ys.map fun y => y.table.length).sum) hsplit
  simp only [List.map_append, List.map_cons, List.sum_append, List.sum_cons] at hsum
  rw [sliceOffset]
  omega

/-- In a frame of FRAME_WORDS words every registered module has its slice (R78, R260). -/
theorem Inv.exists_frameSlice {s : State} (h : Inv s) (hlen : s.frame.length = frameWords s) {m : Nat} {x : Module}
    (hx : s.modules[m]? = some x) : ∃ slice, frameSlice s.frame (x.offset.toNat / 4) x.table.length = some slice := by
  have hend := sliceOffset_add_le hx
  have hoffset := h.offsets_tile m x hx
  rw [frameWords] at hlen
  exact ⟨_, frameSlice_eq_some.mpr ⟨by omega, rfl⟩⟩

/-- A slice as long as the table is long enough for the bitslice step (R192). -/
theorem ModuleInv.validateSlice_ok {x : Module} (h : ModuleInv x) {slice : List Word}
    (hlen : slice.length = x.table.length) (p : Params) (config : DWord) (m : Nat) :
    ∃ v, Machine.validateSlice p config m x slice = .ok v := by
  rcases validateSlice_cases p config m x slice with ⟨_, hv⟩ | ⟨_, _, hv⟩ | ⟨_, _, _, _, hv⟩ | ⟨hvar, hshort, _⟩
  · exact ⟨_, hv⟩
  · exact ⟨_, hv⟩
  · exact ⟨_, hv⟩
  · have := h.bitslice_len hvar
    omega

theorem Inv.validateModule_ok {s : State} (h : Inv s) (hlen : s.frame.length = frameWords s) {m : Nat} {x : Module}
    (hx : s.modules[m]? = some x) : ∃ t v, Machine.validateModule m x s = .ok (t, v) := by
  obtain ⟨slice, hslice⟩ := h.exists_frameSlice hlen hx
  obtain ⟨w, hw⟩ := (h.modules_inv x (List.mem_of_getElem? hx)).validateSlice_ok (frameSlice_length hslice)
    s.params s.config m
  exact ⟨s.withValidation m w, w.verdict, by simp only [Machine.validateModule, hslice, hw]⟩

/-! ### The module loop and the frame step answer -/

/-- A validation keeps the frame and FRAME_WORDS. -/
theorem validateModule_frame_length {m : Nat} {x : Module} {s t : State} {v : Verdict} (hx : s.modules[m]? = some x)
    (hv : validateModule m x s = .ok (t, v)) (hlen : s.frame.length = frameWords s) :
    t.frame.length = frameWords t := by
  rw [frameWords_eq_of_staticParts (validateModule_staticParts hx hv), (validateModule_onlyValidated hv).1]
  exact hlen

/-- The invariant is carried from one validation to the next, so none of them stops. -/
theorem Inv.validateFrom_ne_stopped {s : State} (h : Inv s) (hlen : s.frame.length = frameWords s) (k m : Nat)
    (f : Fault) : validateFrom k m s ≠ .stopped f := by
  induction k generalizing m s with
  | zero => simp [validateFrom]
  | succ k ih =>
    cases hx : s.modules[m]? with
    | none => simp [validateFrom, hx]
    | some x =>
      obtain ⟨t, v, hv⟩ := h.validateModule_ok hlen hx
      have hnext := ih (h.validateModule hx hv) (validateModule_frame_length hx hv hlen) (m + 1)
      cases hok : v.ok
      · simp [validateFrom, hx, hv, hok]
      · simpa [validateFrom, hx, hv, hok] using hnext

theorem Inv.frameBody_ne_stopped {s : State} (h : Inv s) {b : List Byte} (hlen : b.length ≤ frameBytes s) (f : Fault) :
    frameBody b s ≠ .stopped f := by
  rcases frameBody_cases b s with ⟨_, hb⟩ | ⟨hge, ⟨g, hv, _⟩ | ⟨_, _, _, hb⟩ | ⟨_, _, hb⟩⟩
  · simp [hb]
  · have hframe : (decodeFrame b).length = frameWords s := by
      rw [decodeFrame_length]
      rw [frameBytes] at hlen hge
      omega
    exact absurd hv ((h.withFrame (decodeFrame b)).validateFrom_ne_stopped hframe _ _ g)
  · simp [hb]
  · simp [hb]

/-- A read gives at most a frame, so the frame step does not stop either. -/
theorem Inv.frameStep_ne_stopped {s : State} (h : Inv s) (hphase : s.phase ∈ [Phase.config, .running]) (f : Fault) :
    frameStep s ≠ .stopped f := by
  intro hstop
  have hstep := canStep_of_frameStep hphase (by simp [hstop])
  rcases frameStep_cases s with ⟨_, _, hs⟩ | ⟨_, ⟨_, hs⟩ | ⟨_, _, hs⟩ | ⟨b, st, hread, hs⟩⟩ <;> rw [hs] at hstop
  · cases hstop
  · cases hstop
  · cases hstop
  · obtain ⟨_, hle, _⟩ := streamRead_bytes hread
    exact (h.withRead hstep st).frameBody_ne_stopped hle f hstop

/-! ### Every instruction answers -/

theorem answers_next (t : State) : Answers (.next t) := ⟨t, rfl⟩

/-- The checks of R335 answer, or the body does. -/
theorem guarded_answers {ok : Bool} {legal : List Phase} {s : State} {body : Host.Outcome State Fault Refusal}
    (hbody : ok = true → s.phase ∈ legal → Answers body) : Answers (guarded ok legal s body) := by
  rcases @guarded_cases ok legal s body with
    ⟨_, hg⟩ | ⟨_, _, hg⟩ | ⟨_, _, _, hg⟩ | ⟨_, hok, hlegal, hg⟩ <;> rw [hg]
  · exact answers_next _
  · exact answers_next _
  · exact answers_next _
  · exact hbody hok hlegal

theorem execSetCeiling_answers (payload : List Word) (s : State) : Answers (execSetCeiling payload s) := by
  refine guarded_answers fun _ _ => ?_
  split <;> exact answers_next _

theorem execAddModule_answers (n : Byte) (text : List Byte) (s : State) : Answers (execAddModule n text s) := by
  refine guarded_answers fun _ _ => ?_
  split
  · exact answers_next _
  · split <;> exact answers_next _

theorem execBuild_answers (n : Byte) (text : List Byte) (s : State) : Answers (execBuild n text s) := by
  refine guarded_answers fun _ _ => ?_
  split <;> exact answers_next _

/-- VALIDATE's frame has FRAME_WORDS words (R180, R335). -/
theorem Inv.execValidate_answers {s : State} (h : Inv s) (m : Byte) (frame : List Word) :
    Answers (execValidate m frame s) := by
  refine guarded_answers fun hok _ => ?_
  obtain ⟨hlen, _⟩ := Bool.and_eq_true_iff.mp hok
  split
  · exact answers_next _
  · rename_i x hx
    obtain ⟨t, v, hv⟩ := (h.withFrame frame).validateModule_ok (beq_iff_eq.mp hlen) hx
    rw [State.withFrame] at hv
    rw [hv]
    exact answers_next _

theorem Inv.execStep_answers {s : State} (h : Inv s) : Answers (execStep s) := by
  refine guarded_answers fun _ hphase => ?_
  cases hs : frameStep s with
  | stopped f => exact absurd hs (h.frameStep_ne_stopped hphase f)
  | waits | raised | finished => exact answers_next _

theorem Inv.execRun_answers {s : State} (h : Inv s) : Answers (execRun s) := by
  refine guarded_answers fun _ hphase => ?_
  cases hs : frameStep s with
  | stopped f => exact absurd hs (h.frameStep_ne_stopped hphase f)
  | waits | raised => exact answers_next _
  | finished t =>
    dsimp only
    split <;> exact answers_next _

theorem execReadReg_answers (reg m : Byte) (s : State) : Answers (execReadReg reg m s) := by
  unfold execReadReg
  split <;> exact answers_next _

theorem execLetter_answers (effect : Bool → Layout → Except FatalCode Layout) (s : State) :
    Answers (execLetter effect s) := by
  rcases execLetter_cases effect s with ⟨_, h⟩ | ⟨_, _, _, h⟩ | ⟨_, _, _, h⟩ <;> exact ⟨_, h⟩

/-- Only VALIDATE, STEP and RUN validate modules; every other instruction answers in every state. -/
theorem Inv.exec_answers {s : State} (h : Inv s) (i : Instr) : Answers (exec i s) := by
  cases i with
  | reset => exact answers_next _
  | setConfig => exact guarded_answers fun _ _ => answers_next _
  | setCeiling payload => exact execSetCeiling_answers payload s
  | addModule n text => exact execAddModule_answers n text s
  | build n text => exact execBuild_answers n text s
  | validate m frame => exact h.execValidate_answers m frame
  | collect => exact guarded_answers fun _ _ => answers_next _
  | step => exact h.execStep_answers
  | run => exact h.execRun_answers
  | readReg reg m => exact execReadReg_answers reg m s
  | bankA | bankB | bankC | bankD | bankS | bankP | bankL | bankM => exact execLetter_answers _ s

/-! ### Every step answers -/

/-- A code runs in a state that has the invariant, or spells no instruction. -/
theorem step_answers_of_fetch_code {s t : State} {c : Code} (hf : fetch s = .code c t) (ht : Inv t) :
    Answers (step s) := by
  cases hd : decode c with
  | ok i =>
    rw [step_of_fetch_code hf hd]
    exact ht.exec_answers i
  | error e =>
    simp only [step, hf, hd]
    exact answers_next _

/-- Settles O57: what is fetched runs in a state that differs in the bank text at most. -/
theorem invariantRulesOutStops : Obligations.InvariantRulesOutStops := by
  intro s h
  rcases fetch_cases s with ⟨_, _, hf⟩ | ⟨st, _, _, _, hf⟩ | ⟨cw, p, _, _, _, hf⟩ | ⟨b, rest, _, hf⟩
  · simp only [step, hf]
    exact answers_next _
  · simp only [step, hf]
    exact answers_next _
  · exact step_answers_of_fetch_code hf h
  · exact step_answers_of_fetch_code hf (h.withLayout _)

end Sys2Proof.Machine
end

section
/-! The command words of R102 and the letters of R107, decoded and encoded: what the decoder makes of a word by its row
of the table, and the word rebuilt from its row's fixed bits and its own fields. -/

namespace Sys2Proof.Machine

open Sys2Proof.Statement Sys2Proof.Laws

/-! ### Masks and fields -/

/-- A masked compare of a word in two parts is one of each part. -/
theorem and_append_eq_append {h k : Nat} {x : BitVec (h + k)} {mh vh : BitVec h} {ml vl : BitVec k}
    (hx : x &&& (mh ++ ml) = vh ++ vl) : x.extractLsb' k h &&& mh = vh ∧ x.extractLsb' 0 k &&& ml = vl := by
  rw [← BitVec.extractLsb'_append_extractLsb' (x := x), BitVec.and_append] at hx
  have hhigh := congrArg (BitVec.extractLsb' k h) hx
  have hlow := congrArg (BitVec.extractLsb' 0 k) hx
  simp only [BitVec.extractLsb'_append_eq_left] at hhigh
  simp only [BitVec.extractLsb'_append_eq_right] at hlow
  exact ⟨hhigh, hlow⟩

/-- A word compared in full above a free field is the demanded value with the word's own field behind it. -/
theorem eq_append_of_and_ones {h k : Nat} {x : BitVec (h + k)} {v : BitVec h}
    (hx : x &&& (BitVec.allOnes h ++ 0#k) = v ++ 0#k) : x = v ++ x.extractLsb' 0 k := by
  have hv := (and_append_eq_append hx).1
  rw [BitVec.and_allOnes] at hv
  rw [← hv, BitVec.extractLsb'_append_extractLsb']

/-- A field of a field is a field. -/
theorem extractLsb'_extractLsb' {w : Nat} (x : BitVec w) {start len start' len' : Nat} (h : start' + len' ≤ len) :
    (x.extractLsb' start len).extractLsb' start' len' = x.extractLsb' (start + start') len' := by
  refine BitVec.eq_of_getLsbD_eq fun i hi => ?_
  have hlt : start' + i < len := by omega
  simp [hi, hlt, Nat.add_assoc]

/-- ORIENT is read from bit 8 and written back to it. -/
theorem orientBit_orientField (cw : Word) : orientBit (orientField cw) = cw.extractLsb' 8 1 := by
  refine BitVec.eq_of_getLsbD_eq fun i hi => ?_
  obtain rfl : i = 0 := by omega
  rw [BitVec.getLsbD_extractLsb']
  cases h : cw.getLsbD 8 <;> simp only [orientField, h] <;> rfl

/-! ### A word that selects its row, from the row's fixed bits and its own fields -/

theorem fixed_word {cw word : Word} (hs : cw &&& 0xFFFFFFFF = word) : cw = word :=
  BitVec.and_allOnes.symm.trans hs

theorem setConfig_word {cw : Word} (hs : cw &&& 0xFFFFFFE0 = 0x10000000) :
    cw = 0x1#4 ++ 0#23 ++ lowFiveField cw :=
  eq_append_of_and_ones (h := 27) (k := 5) hs

/-- ADD_MODULE, BUILD and VALIDATE have one field, the low byte. -/
theorem lowByte_word {cw : Word} {op : BitVec 4} (hs : cw &&& 0xFFFFFF00 = op ++ 0#20 ++ 0#8) :
    cw = op ++ 0#20 ++ lowByteField cw :=
  eq_append_of_and_ones (h := 24) (k := 8) hs

theorem readReg_word {cw : Word} (hs : cw &&& 0xFFFF0000 = 0x90000000) :
    cw = 0x9#4 ++ 0#12 ++ midByteField cw ++ lowByteField cw := by
  have hfields : midByteField cw ++ lowByteField cw = cw.extractLsb' 0 16 :=
    BitVec.extractLsb'_append_extractLsb'_eq_extractLsb' (by rfl)
  calc cw = 0x9#4 ++ 0#12 ++ cw.extractLsb' 0 16 := eq_append_of_and_ones (h := 16) (k := 16) hs
    _ = 0x9#4 ++ 0#12 ++ midByteField cw ++ lowByteField cw := by
      rw [← hfields, BitVec.append_assoc']
      rfl

/-- COLLECT's reserved bits 7:5 lie between its two fields. -/
theorem collect_word {cw : Word} (hs : cw &&& 0xFFFFFEE0 = 0x60000000) :
    cw = 0x6#4 ++ 0#19 ++ orientBit (orientField cw) ++ 0#3 ++ lowFiveField cw := by
  obtain ⟨habove5, -⟩ := and_append_eq_append (h := 27) (k := 5) (ml := 0) (vl := 0)
    (mh := BitVec.allOnes 23 ++ 0#1 ++ BitVec.allOnes 3) (vh := 0x6#4 ++ 0#20 ++ 0#3) hs
  obtain ⟨habove8, hreserved⟩ := and_append_eq_append (h := 24) (k := 3) (vh := 0x6#4 ++ 0#20) habove5
  have hhead := eq_append_of_and_ones (h := 23) (k := 1) (v := 0x6#4 ++ 0#19) habove8
  rw [BitVec.and_allOnes] at hreserved
  simp only [extractLsb'_extractLsb', Nat.reduceAdd, Nat.reduceLeDiff] at hhead hreserved
  calc cw = cw.extractLsb' 5 27 ++ lowFiveField cw :=
      (BitVec.extractLsb'_append_extractLsb' (w := 27) (len := 5) (x := cw)).symm
    _ = cw.extractLsb' 8 24 ++ cw.extractLsb' 5 3 ++ lowFiveField cw := by
      rw [BitVec.extractLsb'_append_extractLsb'_eq_extractLsb' (by rfl)]
    _ = _ := by rw [hhead, hreserved, orientBit_orientField]

/-! ### The decoder by the rows of R102 -/

/-- What R102 makes of a word of operation `op` once its reserved bits are clear: the command with the word's fields, if
the payload is of its kind. -/
def commandBody (op : Nat) (cw : Word) (p : Payload) : Except DecodeError Instr :=
  match op with
  | 0x0 => noPayload p .reset
  | 0x1 => noPayload p (.setConfig (lowFiveField cw))
  | 0x2 => wordPayload p .setCeiling
  | 0x3 => bytePayload p (.addModule (lowByteField cw))
  | 0x4 => bytePayload p (.build (lowByteField cw))
  | 0x5 => wordPayload p (.validate (lowByteField cw))
  | 0x6 => wordPayload p (.collect (lowFiveField cw) (orientField cw))
  | 0x7 => noPayload p .step
  | 0x8 => noPayload p .run
  | 0x9 => noPayload p (.readReg (lowByteField cw) (midByteField cw))
  | _ => .error .reservedOp

/-- A fact about every row of R102's table, by one case a row. -/
theorem row_cases {motive : (op : Nat) → (msk word : Word) → (op, msk, word) ∈ rows → Prop}
    (reset : motive 0x0 0xFFFFFFFF 0x00000000 (by decide)) (setConfig : motive 0x1 0xFFFFFFE0 0x10000000 (by decide))
    (setCeiling : motive 0x2 0xFFFFFFFF 0x20000000 (by decide))
    (addModule : motive 0x3 0xFFFFFF00 0x30000000 (by decide)) (build : motive 0x4 0xFFFFFF00 0x40000000 (by decide))
    (validate : motive 0x5 0xFFFFFF00 0x50000000 (by decide)) (collect : motive 0x6 0xFFFFFEE0 0x60000000 (by decide))
    (step : motive 0x7 0xFFFFFFFF 0x70000000 (by decide)) (run : motive 0x8 0xFFFFFFFF 0x80000000 (by decide))
    (readReg : motive 0x9 0xFFFF0000 0x90000000 (by decide))
    {op : Nat} {msk word : Word} (h : (op, msk, word) ∈ rows) : motive op msk word h := by
  have hrow := h
  simp only [rows, List.mem_cons, List.not_mem_nil, or_false, Prod.mk.injEq] at hrow
  rcases hrow with ⟨rfl, rfl, rfl⟩ | ⟨rfl, rfl, rfl⟩ | ⟨rfl, rfl, rfl⟩ | ⟨rfl, rfl, rfl⟩ | ⟨rfl, rfl, rfl⟩ |
    ⟨rfl, rfl, rfl⟩ | ⟨rfl, rfl, rfl⟩ | ⟨rfl, rfl, rfl⟩ | ⟨rfl, rfl, rfl⟩ | ⟨rfl, rfl, rfl⟩ <;> assumption

/-- Every row compares the whole OP field, with the row's own code (R101). -/
theorem rows_opField {op : Nat} {msk word : Word} (h : (op, msk, word) ∈ rows) :
    opField msk = BitVec.allOnes 4 ∧ (opField word).toNat = op := by
  cases h using row_cases <;> exact ⟨rfl, rfl⟩

/-- An operation code below 0xA has a row. -/
theorem exists_row {op : Nat} (h : op < 0xA) : ∃ msk word, (op, msk, word) ∈ rows := by
  interval_cases op <;> simp [rows]

/-- A word that selects a row has that row's operation code. -/
theorem opField_of_selects {op : Nat} {msk word cw : Word} (h : (op, msk, word) ∈ rows) (hs : cw &&& msk = word) :
    (opField cw).toNat = op := by
  obtain ⟨hmsk, hword⟩ := rows_opField h
  have hfield : opField (cw &&& msk) = opField cw := by
    rw [opField, BitVec.extractLsb'_and]
    change opField cw &&& opField msk = opField cw
    rw [hmsk, BitVec.and_allOnes]
  rw [← hword, ← hs, hfield]

section
variable {op : Nat} {msk word cw : Word} {p : Payload}

/-- A word is judged by the row of its operation code. -/
theorem decodeCommand_of_row (h : (op, msk, word) ∈ rows) (hop : (opField cw).toNat = op) :
    decodeCommand cw p = inRow cw msk word (commandBody op cw p) := by
  cases h using row_cases <;> simp only [decodeCommand, hop, commandBody]

/-- A word that selects a row is that row's command. -/
theorem decodeCommand_of_selects (h : (op, msk, word) ∈ rows) (hs : cw &&& msk = word) :
    decodeCommand cw p = commandBody op cw p := by
  rw [decodeCommand_of_row h (opField_of_selects h hs), inRow, selects, hs, beq_self_eq_true, if_pos rfl]

/-- A reserved bit is set (R104). -/
theorem decodeCommand_of_not_selects (h : (op, msk, word) ∈ rows) (hop : (opField cw).toNat = op)
    (hs : cw &&& msk ≠ word) : decodeCommand cw p = .error .reservedBit := by
  rw [decodeCommand_of_row h hop, inRow, selects, beq_false_of_ne hs, if_neg Bool.false_ne_true]

/-- A reserved operation code (R103). -/
theorem decodeCommand_of_reservedOp (h : 0xA ≤ (opField cw).toNat) : decodeCommand cw p = .error .reservedOp := by
  unfold decodeCommand
  split
  case h_11 => rfl
  all_goals omega

/-- A word that decodes selects a row, and the row's command is what it decodes to. -/
theorem row_of_decodeCommand_ok {i : Instr} (hd : decodeCommand cw p = .ok i) :
    ∃ op msk word, (op, msk, word) ∈ rows ∧ cw &&& msk = word ∧ commandBody op cw p = .ok i := by
  have hop : (opField cw).toNat < 0xA := by
    refine Nat.lt_of_not_le fun hle => ?_
    rw [decodeCommand_of_reservedOp hle] at hd
    cases hd
  obtain ⟨msk, word, hrow⟩ := exists_row hop
  have hs : cw &&& msk = word := by
    by_contra hne
    rw [decodeCommand_of_not_selects hrow rfl hne] at hd
    cases hd
  exact ⟨_, msk, word, hrow, hs, decodeCommand_of_selects hrow hs ▸ hd⟩

end

/-! ### Payloads -/

/-- Two payloads are the same, or both carry nothing (log entry 11). -/
def SamePayload (p' p : Payload) : Prop := p' = p ∨ (p.isEmpty = true ∧ p'.isEmpty = true)

theorem noPayload_eq_ok {p : Payload} {i j : Instr} (h : noPayload p i = .ok j) : j = i ∧ SamePayload .none p := by
  unfold noPayload at h
  split at h
  · rename_i hp
    cases h
    exact ⟨rfl, .inr ⟨hp, rfl⟩⟩
  · cases h

theorem bytePayload_eq_ok {p : Payload} {f : List Byte → Instr} {j : Instr} (h : bytePayload p f = .ok j) :
    ∃ d, j = f d ∧ SamePayload (.bytes d) p := by
  match p with
  | .none | .words [] =>
    cases h
    exact ⟨[], rfl, .inr ⟨rfl, rfl⟩⟩
  | .bytes d =>
    cases h
    exact ⟨d, rfl, .inl rfl⟩
  | .words (_ :: _) => cases h

theorem wordPayload_eq_ok {p : Payload} {f : List Word → Instr} {j : Instr} (h : wordPayload p f = .ok j) :
    ∃ w, j = f w ∧ SamePayload (.words w) p := by
  match p with
  | .none | .bytes [] =>
    cases h
    exact ⟨[], rfl, .inr ⟨rfl, rfl⟩⟩
  | .words w =>
    cases h
    exact ⟨w, rfl, .inl rfl⟩
  | .bytes (_ :: _) => cases h

/-! ### Letters -/

/-- A byte that spells a letter is the letter's byte (R107). -/
theorem letterByte_of_letterOf {b : Byte} {c : BankLetter} (h : letterOf b = some c) : b = letterByte c := by
  unfold letterOf at h
  split at h <;> cases h <;> exact BitVec.eq_of_toNat_eq ‹_›

theorem encode_letterInstr (c : BankLetter) : encode (letterInstr c) = .letter (letterByte c) := by
  cases c <;> rfl

theorem decode_letterByte (c : BankLetter) : decode (.letter (letterByte c)) = .ok (letterInstr c) := by
  simp only [decode, letterOf_letterByte]

/-! ### Decoding what was encoded -/

theorem lowFiveField_append (x : BitVec 27) (b : BitVec 5) : lowFiveField (x ++ b) = b :=
  BitVec.extractLsb'_append_eq_right

theorem lowByteField_append (x : BitVec 24) (b : Byte) : lowByteField (x ++ b) = b :=
  BitVec.extractLsb'_append_eq_right

theorem midByteField_append (x : BitVec 16) (m reg : Byte) : midByteField (x ++ m ++ reg) = m := by
  rw [midByteField, BitVec.extractLsb'_append_eq_of_le (by rfl)]
  exact BitVec.extractLsb'_append_eq_right

theorem orientField_append (x : BitVec 23) (orient : Orient) (bit : BitVec 5) :
    orientField (x ++ orientBit orient ++ 0#3 ++ bit) = orient := by
  rw [orientField, BitVec.getLsbD_append, BitVec.getLsbD_append, BitVec.getLsbD_append]
  cases orient <;> rfl

/-- No field of an encoding is lost, whatever its payload's length: the encoding selects its row, and each field of the
row is read from where it was put. -/
theorem decode_encode (i : Instr) : decode (encode i) = .ok i := by
  cases i with
  | reset => exact decodeCommand_of_selects (op := 0x0) (by decide) EncodingSelectsRow.reset
  | setConfig flags =>
    refine (decodeCommand_of_selects (op := 0x1) (by decide) (EncodingSelectsRow.setConfig flags)).trans ?_
    rw [commandBody, lowFiveField_append]
    rfl
  | setCeiling payload =>
    exact decodeCommand_of_selects (op := 0x2) (by decide) (EncodingSelectsRow.setCeiling payload)
  | addModule n text =>
    refine (decodeCommand_of_selects (op := 0x3) (by decide) (EncodingSelectsRow.addModule n text)).trans ?_
    rw [commandBody, lowByteField_append]
    rfl
  | build n text =>
    refine (decodeCommand_of_selects (op := 0x4) (by decide) (EncodingSelectsRow.build n text)).trans ?_
    rw [commandBody, lowByteField_append]
    rfl
  | validate m frame =>
    refine (decodeCommand_of_selects (op := 0x5) (by decide) (EncodingSelectsRow.validate m frame)).trans ?_
    rw [commandBody, lowByteField_append]
    rfl
  | collect bit orient lanes =>
    refine (decodeCommand_of_selects (op := 0x6) (by decide) (EncodingSelectsRow.collect bit orient lanes)).trans ?_
    rw [commandBody, lowFiveField_append, orientField_append]
    rfl
  | step => exact decodeCommand_of_selects (op := 0x7) (by decide) EncodingSelectsRow.step
  | run => exact decodeCommand_of_selects (op := 0x8) (by decide) EncodingSelectsRow.run
  | readReg reg m =>
    refine (decodeCommand_of_selects (op := 0x9) (by decide) (EncodingSelectsRow.readReg reg m)).trans ?_
    rw [commandBody, lowByteField_append, midByteField_append]
    rfl
  | bankA => exact decode_letterByte .A
  | bankB => exact decode_letterByte .B
  | bankC => exact decode_letterByte .C
  | bankD => exact decode_letterByte .D
  | bankS => exact decode_letterByte .S
  | bankP => exact decode_letterByte .P
  | bankL => exact decode_letterByte .l
  | bankM => exact decode_letterByte .m

/-- Settles O1: the round trip asks nothing of a payload's length. -/
theorem decodeEncodeRoundTrip : Obligations.DecodeEncodeRoundTrip := fun i _ => decode_encode i

/-- Settles O3. -/
theorem writtenWordsDecode : Obligations.WrittenWordsDecode :=
  ⟨decode_encode .reset, decode_encode (.setConfig 0x1F), decode_encode (.setCeiling [2, 0]),
    decode_encode (.addModule 3 [0x32, 0x3D, 0x53]), decode_encode (.collect 31 .msb []),
    decode_encode (.readReg 0x24 1), decode_encode .bankS, decode_encode .bankL,
    decodeCommand_of_not_selects (cw := 0x90010000) (op := 0x9) (msk := 0xFFFF0000) (word := 0x90000000) (by decide)
      (by decide) (by decide)⟩

/-! ### Encoding what was decoded -/

/-- A word of a row is the encoding of the row's command. -/
theorem encode_of_commandBody {op : Nat} {msk word cw : Word} {p : Payload} {i : Instr}
    (h : (op, msk, word) ∈ rows) (hs : cw &&& msk = word) (hb : commandBody op cw p = .ok i) :
    ∃ p', encode i = .command cw p' ∧ SamePayload p' p := by
  cases h using row_cases with
  | reset | step | run =>
    obtain ⟨rfl, hp⟩ := noPayload_eq_ok hb
    exact ⟨.none, congrArg (Code.command · _) (fixed_word hs).symm, hp⟩
  | setConfig =>
    obtain ⟨rfl, hp⟩ := noPayload_eq_ok hb
    exact ⟨.none, congrArg (Code.command · _) (setConfig_word hs).symm, hp⟩
  | readReg =>
    obtain ⟨rfl, hp⟩ := noPayload_eq_ok hb
    exact ⟨.none, congrArg (Code.command · _) (readReg_word hs).symm, hp⟩
  | addModule | build =>
    obtain ⟨d, rfl, hp⟩ := bytePayload_eq_ok hb
    exact ⟨.bytes d, congrArg (Code.command · _) (lowByte_word hs).symm, hp⟩
  | setCeiling =>
    obtain ⟨w, rfl, hp⟩ := wordPayload_eq_ok hb
    exact ⟨.words w, congrArg (Code.command · _) (fixed_word hs).symm, hp⟩
  | validate =>
    obtain ⟨w, rfl, hp⟩ := wordPayload_eq_ok hb
    exact ⟨.words w, congrArg (Code.command · _) (lowByte_word hs).symm, hp⟩
  | collect =>
    obtain ⟨w, rfl, hp⟩ := wordPayload_eq_ok hb
    exact ⟨.words w, congrArg (Code.command · _) (collect_word hs).symm, hp⟩

/-- Settles O2. -/
theorem encodeDecodeGivesTheWord : Obligations.EncodeDecodeGivesTheWord := by
  refine ⟨fun cw p i hd => ?_, fun b i hd => ?_⟩
  · obtain ⟨_, _, _, hrow, hs, hb⟩ := row_of_decodeCommand_ok hd
    exact encode_of_commandBody hrow hs hb
  · cases hc : letterOf b with
    | none => simp [decode, hc] at hd
    | some c =>
      obtain rfl : letterInstr c = i := by simpa [decode, hc] using hd
      rw [encode_letterInstr, letterByte_of_letterOf hc]

end Sys2Proof.Machine
end

section
/-! What a step does with a command word that spells no command, or whose payload has another length than R102 demands:
the fault entry with CMD_ILLEGAL, or in FATAL the refusal (R103, R104, R335, R343). -/

namespace Sys2Proof.Machine

open Sys2Proof.Statement

/-- An illegal command, in the words of the statements. -/
theorem illegal_eq_refused_or_faulted (s : State) :
    s.illegal = if s.phase = .fatal then refused s else faulted .cmdIllegal s := rfl

/-! ### The command at the head of the port -/

/-- What a step makes of the decoder's answer on the command at the port. -/
def runDecoded (s : State) : Except DecodeError Instr → Host.Outcome State Fault Refusal
  | .ok i => exec i s
  | .error e => .next (undecodable e s)

theorem step_of_command {s : State} {cw : Word} {p : Payload} {q : List HostItem} (ht : s.layout.text = [])
    (hq : s.queue = .command cw p :: q) : step s = runDecoded s (decodeCommand cw p) := by
  have hf := fetch_command ht hq
  cases hd : decodeCommand cw p with
  | ok i => exact step_of_fetch_code hf hd
  | error e => simp only [step, hf, decode, hd, runDecoded]

/-- Every error of a command word is an illegal command; only a letter has another. -/
theorem runDecoded_error {s : State} {e : DecodeError} (he : e ≠ .illegalLetter) :
    runDecoded s (.error e) = .next s.illegal := by
  cases e with
  | reservedOp | reservedBit | payloadShape => rfl
  | illegalLetter => exact absurd rfl he

/-- Settles O7. -/
theorem reservedOpRaisesIllegal : Obligations.ReservedOpRaisesIllegal := by
  intro s cw p q ht hq hop
  rw [step_of_command ht hq, decodeCommand_of_reservedOp hop, runDecoded_error (by decide),
    illegal_eq_refused_or_faulted]

/-! ### A payload of a wrong length -/

theorem payload_isEmpty_eq_false {p : Payload} (h : payloadLength p ≠ 0) : p.isEmpty = false := by
  match p with
  | .none => exact absurd rfl h
  | .bytes (_ :: _) | .words (_ :: _) => rfl
  | .bytes [] | .words [] => exact absurd rfl h

theorem asBytes_length {p : Payload} {d : List Byte} (h : p.asBytes = some d) : d.length = payloadLength p := by
  match p with
  | .none | .words [] | .bytes _ =>
    cases h
    rfl
  | .words (_ :: _) => cases h

theorem asWords_length {p : Payload} {w : List Word} (h : p.asWords = some w) : w.length = payloadLength p := by
  match p with
  | .none | .bytes [] | .words _ =>
    cases h
    rfl
  | .bytes (_ :: _) => cases h

theorem runDecoded_noPayload {s : State} {p : Payload} {i : Instr} (h : payloadLength p ≠ 0) :
    runDecoded s (noPayload p i) = .next s.illegal := by
  rw [noPayload, payload_isEmpty_eq_false h, if_neg Bool.false_ne_true, runDecoded_error (by decide)]

/-- Bytes run the command, and anything else is illegal (log entry 11). -/
theorem runDecoded_bytePayload {s : State} {p : Payload} {f : List Byte → Instr}
    (hf : ∀ d, d.length = payloadLength p → exec (f d) s = .next s.illegal) :
    runDecoded s (bytePayload p f) = .next s.illegal := by
  unfold bytePayload
  cases hd : p.asBytes with
  | some d => exact hf d (asBytes_length hd)
  | none => exact runDecoded_error (by decide)

/-- Words run the command, and anything else is illegal (log entry 11). -/
theorem runDecoded_wordPayload {s : State} {p : Payload} {f : List Word → Instr}
    (hf : ∀ w, w.length = payloadLength p → exec (f w) s = .next s.illegal) :
    runDecoded s (wordPayload p f) = .next s.illegal := by
  unfold wordPayload
  cases hw : p.asWords with
  | some w => exact hf w (asWords_length hw)
  | none => exact runDecoded_error (by decide)

/-- The operand check comes before the phase (R335). -/
theorem guarded_of_wrong_shape {ok : Bool} {legal : List Phase} {s : State}
    {body : Host.Outcome State Fault Refusal} (h : ok = false) : guarded ok legal s body = .next s.illegal := by
  by_cases hf : s.phase = .fatal <;> simp [guarded, State.illegal, hf, h]

/-- A word of a row, with a payload of a wrong length: the decoder rejects it, or the command's own operand check. -/
theorem runDecoded_of_wrong_length {s : State} {op : Nat} {msk word cw : Word} {p : Payload}
    (h : (op, msk, word) ∈ rows) (hop : (opField cw).toNat = op) (hlen : payloadLength p ≠ demandedLength s cw) :
    runDecoded s (commandBody op cw p) = .next s.illegal := by
  unfold opField at hop
  simp only [demandedLength, hop] at hlen
  cases h using row_cases with
  | reset | setConfig | step | run | readReg => exact runDecoded_noPayload hlen
  | addModule | build =>
    exact runDecoded_bytePayload fun d hd => guarded_of_wrong_shape (beq_false_of_ne (hd ▸ hlen))
  | setCeiling | collect =>
    exact runDecoded_wordPayload fun w hw => guarded_of_wrong_shape (beq_false_of_ne (hw ▸ hlen))
  | validate =>
    refine runDecoded_wordPayload fun w hw => guarded_of_wrong_shape ?_
    rw [beq_false_of_ne (hw ▸ hlen), Bool.false_and]

/-- SET_CONFIG's word with FLAGS written into it is the encoder's. -/
theorem setConfig_word_eq (flags : BitVec 5) :
    (0x10000000 ||| flags.zeroExtend 32 : Word) = 0x1#4 ++ 0#23 ++ flags := by
  have hflags : flags.toNat % 2 ^ 32 = flags.toNat := Nat.mod_eq_of_lt (Nat.lt_trans flags.isLt (by decide))
  refine BitVec.eq_of_toNat_eq ?_
  simp only [BitVec.toNat_append, BitVec.toNat_or, BitVec.truncate_eq_setWidth, BitVec.toNat_setWidth, hflags]
  rfl

/-- Settles O8: a word that misses its row is rejected by the decoder, and one that matches it with a wrong length by
the decoder or by the command. -/
theorem reservedBitOrLengthRaisesIllegal : Obligations.ReservedBitOrLengthRaisesIllegal := by
  refine ⟨fun s cw p q op msk word ht hq hrow hop hbad => ?_, fun flags => ?_⟩
  · rw [step_of_command ht hq, ← illegal_eq_refused_or_faulted]
    by_cases hs : cw &&& msk = word
    · rw [decodeCommand_of_selects hrow hs]
      exact runDecoded_of_wrong_length hrow hop (hbad.resolve_left (not_not_intro hs))
    · rw [decodeCommand_of_not_selects hrow hop hs, runDecoded_error (by decide)]
  · rw [setConfig_word_eq]
    exact decode_encode (.setConfig flags)

end Sys2Proof.Machine
end

section
/-! The identity compare (R109) and the fields of the tag word (R110). -/

namespace Sys2Proof.Machine

/-! ### The masked compare -/

/-- A compare under a mask of the low k bits is one of the low k bits. -/
theorem and_lowMask_eq_iff {w k : Nat} (hk : k ≤ w) (x y : BitVec w) :
    x &&& BitVec.ofNat w (2 ^ k - 1) = y &&& BitVec.ofNat w (2 ^ k - 1) ↔ x.extractLsb' 0 k = y.extractLsb' 0 k := by
  have hlt : 2 ^ k - 1 < 2 ^ w := by
    have hpow : 2 ^ k ≤ 2 ^ w := Nat.pow_le_pow_right (by decide) hk
    have hpos : 0 < 2 ^ k := Nat.two_pow_pos k
    omega
  simp only [← BitVec.toNat_inj, BitVec.toNat_and, BitVec.toNat_ofNat, Nat.mod_eq_of_lt hlt,
    Nat.and_two_pow_sub_one_eq_mod, BitVec.extractLsb'_toNat, Nat.shiftRight_zero]

/-- An ID word matches (R109): CHANNEL alone is compared under NO_SITE_ID, the whole low byte otherwise. -/
theorem masked_eq_iff (config : DWord) (t : Byte) (v : Word) :
    v &&& idMask config = t.zeroExtend 32 &&& idMask config ↔
      if config.getLsbD 0 then v.extractLsb' 0 5 = t.extractLsb' 0 5 else v.extractLsb' 0 8 = t := by
  unfold idMask noSiteId
  split
  · rw [← BitVec.extractLsb'_setWidth_of_le (w' := 32) (b := t) (by decide)]
    exact and_lowMask_eq_iff (k := 5) (by decide) v (t.zeroExtend 32)
  · have ht : (t.zeroExtend 32).extractLsb' 0 8 = t :=
      (BitVec.extractLsb'_setWidth_of_le (by decide)).trans BitVec.extractLsb'_eq_self
    have hv := and_lowMask_eq_iff (k := 8) (by decide) v (t.zeroExtend 32)
    rwa [ht] at hv

/-- Settles O38. -/
theorem maskedIdentityCompare : Obligations.MaskedIdentityCompare := by
  intro config t v a
  simp only [wordPolicy, ne_eq, ite_not, masked_eq_iff]

/-! ### The tag word -/

/-- VALUE of a tag (R110). -/
def tagValue : Tag → Nat
  | .id t => t.toNat
  | .scratchpad j => j.val
  | .noCheck | .sampleCounter | .pmod => 0

/-- KIND of a tag (R110). -/
def tagKind : Tag → Nat
  | .id _ => 0
  | .noCheck => 1
  | .sampleCounter => 2
  | .scratchpad _ => 3
  | .pmod => 4

theorem tagValue_lt (tag : Tag) : tagValue tag < 256 := by
  cases tag with
  | id t => exact t.isLt
  | scratchpad j => exact Nat.lt_trans j.isLt (by decide)
  | noCheck | sampleCounter | pmod => decide

theorem tagKind_lt (tag : Tag) : tagKind tag < 8 := by cases tag <;> simp [tagKind]

/-- The tag word as a number. -/
theorem tagWord_toNat (tag : Tag) : (tagWord tag).toNat = tagValue tag + 256 * tagKind tag := by
  cases tag with
  | id t => exact BitVec.toNat_setWidth_of_le (by decide)
  | scratchpad j =>
    simp only [tagWord, tagValue, tagKind, BitVec.toNat_ofNat]
    omega
  | noCheck | sampleCounter | pmod => rfl

/-- A field of the tag word as a number. -/
theorem tagWord_field (tag : Tag) (start len : Nat) :
    ((tagWord tag).extractLsb' start len).toNat = (tagValue tag + 256 * tagKind tag) / 2 ^ start % 2 ^ len := by
  rw [BitVec.extractLsb'_toNat, tagWord_toNat, Nat.shiftRight_eq_div_pow]

/-- Settles O19: each field is cut out of the number by division. -/
theorem tagWordHoldsItsFields : Obligations.TagWordHoldsItsFields := by
  intro tag
  have hvalue := tagValue_lt tag
  have hkind := tagKind_lt tag
  refine ⟨?_, ?_, BitVec.eq_of_toNat_eq ?_⟩ <;> rw [tagWord_field]
  · calc _ = tagValue tag := by omega
      _ = _ := by cases tag <;> rfl
  · calc _ = tagKind tag := by omega
      _ = _ := by cases tag <;> rfl
  · simp only [BitVec.ofNat_eq_ofNat, BitVec.toNat_ofNat]
    omega

end Sys2Proof.Machine
end

section
/-! What a single bank letter does (R143, R146 to R153): one named update of the table being built for all eight, and the
letters run by themselves. -/

namespace Sys2Proof.Machine

open Sys2Proof.Statement

/-! ### The update a letter makes -/

/-- The table being built after the letter c has been accepted (R146 to R153). -/
def Layout.withLetter (spad : Bool) (c : BankLetter) (lay : Layout) : Layout :=
  if isChannelBank c then
    { lay with
      banks := lay.banks ++ [c]
      lower := lay.lower ++ idGroup lay.site (8 * channelBanks lay)
      upper := idGroup lay.site (8 * channelBanks lay + 4) ++ lay.upper }
  else { lay with banks := lay.banks ++ [c], tail := lay.tail ++ tailTags spad c }

theorem statusEntries_eq_tailTags (spad : Bool) : statusEntries spad = tailTags spad .S := by
  cases spad <;> rfl

/-- A letter that has not appeared makes its update. -/
theorem letterEffect_eq_withLetter {c : BankLetter} {spad : Bool} {lay : Layout} (h : c ∉ lay.banks) :
    letterEffect c spad lay = .ok (lay.withLetter spad c) := by
  cases c with
  | A | B | C | D => exact acceptChannelBank_of_not_mem h
  | S => exact (acceptTailBank_of_not_mem h).trans (by rw [statusEntries_eq_tailTags]; rfl)
  | P => exact acceptTailBank_of_not_mem h
  | l | m => exact (acceptLetter_eq _ lay).trans (by simp [h, Layout.withLetter, isChannelBank, tailTags])

/-- Which text still stands in the unit makes no difference to a letter. -/
theorem withLetter_withText (spad : Bool) (c : BankLetter) (lay : Layout) (text : List Byte) :
    Layout.withLetter spad c { lay with text := text } = { lay.withLetter spad c with text := text } := by
  unfold Layout.withLetter
  split <;> rfl

/-- The ordinal of the next channel group counts the letters A to D (R146). -/
theorem channelBanks_eq (lay : Layout) : channelBanks lay = (channelLetters lay.banks).length := by
  unfold channelBanks channelLetters
  congr 2
  funext c
  cases c <;> rfl

/-! ### A letter run by itself -/

theorem exec_letterInstr (c : BankLetter) (s : State) : exec (letterInstr c) s = execLetter (letterEffect c) s := by
  cases c <;> rfl

theorem exec_letterInstr_of_not_mem {c : BankLetter} {s : State} (hf : s.phase ≠ .fatal) (h : c ∉ s.layout.banks) :
    exec (letterInstr c) s = .next { s with layout := s.layout.withLetter (spadMon s.config) c } := by
  simp only [exec_letterInstr, execLetter, if_neg hf, letterEffect_eq_withLetter h]

theorem exec_letterInstr_of_mem {c : BankLetter} {s : State} (hf : s.phase ≠ .fatal) (h : c ∈ s.layout.banks) :
    exec (letterInstr c) s = .next (State.raise .cfgDupBank { s with layout := Layout.idle }) := by
  simp only [exec_letterInstr, execLetter, if_neg hf, letterEffect_of_mem h]

/-- Settles O30: the ordinal counts the channel letters before it. -/
theorem channelLettersContribute : Obligations.ChannelLettersContribute := by
  intro i c s hrow hf hnew k hk
  obtain ⟨rfl, hc⟩ : i = letterInstr c ∧ isChannelBank c = true := by
    simp only [List.mem_cons, List.not_mem_nil, or_false, Prod.mk.injEq] at hrow
    rcases hrow with ⟨rfl, rfl⟩ | ⟨rfl, rfl⟩ | ⟨rfl, rfl⟩ | ⟨rfl, rfl⟩ <;> exact ⟨rfl, rfl⟩
  rw [exec_letterInstr_of_not_mem hf hnew, Layout.withLetter, if_pos hc, channelBanks_eq, ← hk]
  rfl

/-- Settles O31: l and m have no entries of their own. -/
theorem otherLettersContribute : Obligations.OtherLettersContribute := by
  intro i c s hrow hf hnew
  obtain ⟨rfl, hc⟩ : i = letterInstr c ∧ isChannelBank c = false := by
    simp only [List.mem_cons, List.not_mem_nil, or_false, Prod.mk.injEq] at hrow
    rcases hrow with ⟨rfl, rfl⟩ | ⟨rfl, rfl⟩ | ⟨rfl, rfl⟩ | ⟨rfl, rfl⟩ <;> exact ⟨rfl, rfl⟩
  rw [exec_letterInstr_of_not_mem hf hnew, Layout.withLetter, hc]
  rfl

/-- Settles O32: every letter is refused in the same way. -/
theorem repeatedLetterIsFatal : Obligations.RepeatedLetterIsFatal := by
  intro i c s hrow hf hmem
  obtain rfl : i = letterInstr c := by
    simp only [List.mem_cons, List.not_mem_nil, or_false, Prod.mk.injEq] at hrow
    rcases hrow with ⟨rfl, rfl⟩ | ⟨rfl, rfl⟩ | ⟨rfl, rfl⟩ | ⟨rfl, rfl⟩ | ⟨rfl, rfl⟩ | ⟨rfl, rfl⟩ | ⟨rfl, rfl⟩ |
      ⟨rfl, rfl⟩ <;> rfl
  exact exec_letterInstr_of_mem hf hmem

/-! ### The letters of a text, one step each -/

/-- A scan that succeeds begins with a letter that has not appeared, or is over (R145). -/
theorem scanBanks_cons_ok {spad : Bool} {b : Byte} {rest : List Byte} {lay lay' : Layout}
    (h : scanBanks spad (b :: rest) lay = .ok lay') :
    ∃ c, b = letterByte c ∧ c ∉ lay.banks ∧ scanBanks spad rest (lay.withLetter spad c) = .ok lay' := by
  cases hb : letterOf b with
  | none => simp [scanBanks, hb] at h
  | some c =>
    obtain rfl := letterByte_of_letterOf hb
    by_cases hc : c ∈ lay.banks
    · simp [scanBanks, hb, letterEffect_of_mem hc] at h
    · exact ⟨c, rfl, hc, by rwa [scanBanks_cons (letterEffect_eq_withLetter hc)] at h⟩

/-- A step at a new letter takes it off the text and makes its update. -/
theorem step_of_new_letter {s : State} {c : BankLetter} {rest : List Byte} (hf : s.phase ≠ .fatal)
    (ht : s.layout.text = letterByte c :: rest) (hnew : c ∉ s.layout.banks) :
    step s = .next { s with layout := { s.layout.withLetter (spadMon s.config) c with text := rest } } := by
  have hexec := @exec_letterInstr_of_not_mem c { s with layout := { s.layout with text := rest } } hf hnew
  rw [withLetter_withText] at hexec
  exact (step_of_fetch_code (fetch_letter ht) (decode_letterByte c)).trans hexec

theorem run_succ_of_next {M : Host.Core} {s t : M.State} (k : Nat) (h : M.step s = .next t) :
    M.run (k + 1) s = M.run k t := by
  rw [Host.Core.run, h]

/-- The steps at a text that scans end with the scan's table, from any table begun before. -/
theorem core_run_scanBanks {text : List Byte} {s : State} {lay : Layout} (hf : s.phase ≠ .fatal)
    (ht : s.layout.text = text)
    (hscan : scanBanks (spadMon s.config) text { s.layout with text := [] } = .ok lay) :
    Sys2Proof.core.run text.length s = .next { s with layout := lay } := by
  induction text generalizing s with
  | nil =>
    obtain rfl := Except.ok.inj hscan
    have hkeep : { s.layout with text := [] } = s.layout := by rw [← ht]
    rw [hkeep]
    rfl
  | cons b rest ih =>
    obtain ⟨c, rfl, hnew, hrest⟩ := scanBanks_cons_ok hscan
    rw [withLetter_withText] at hrest
    exact (run_succ_of_next (M := Sys2Proof.core) rest.length (step_of_new_letter hf ht hnew)).trans (ih hf rfl hrest)

/-- Settles O33, by induction on the text. -/
theorem lettersOneByOneBuildTheSameTable : Obligations.LettersOneByOneBuildTheSameTable := by
  intro s site text lay hf hlay hscan
  exact core_run_scanBanks hf (by rw [hlay]) (by rw [hlay]; exact hscan)

end Sys2Proof.Machine
end

section
/-! Definition texts (40_bank_layout.md): the scan builds the table of the index rules, how long that table is, and which
fault a bad definition raises. -/

namespace Sys2Proof.Machine

open Sys2Proof.Statement

/-! ### The table after the scan of a bank text -/

/-- The lower half of an ABCD block of n groups, the first group first (R147). -/
def lowerHalf (site : Byte) (n : Nat) : List Tag := (List.range n).flatMap fun k => idGroup site (8 * k)

/-- The upper half of an ABCD block of n groups, the last group first (R148). -/
def upperHalf (site : Byte) (n : Nat) : List Tag :=
  (List.range n).flatMap fun k => idGroup site (8 * (n - 1 - k) + 4)

/-- The table being built after the scan of the letters banks, each appearing once. -/
def scanned (spad : Bool) (site : Byte) (banks : List BankLetter) : Layout :=
  { site := site
    banks := banks
    lower := lowerHalf site (channelLetters banks).length
    upper := upperHalf site (channelLetters banks).length
    tail := banks.flatMap (tailTags spad)
    text := [] }

theorem lowerHalf_succ (site : Byte) (n : Nat) :
    lowerHalf site (n + 1) = lowerHalf site n ++ idGroup site (8 * n) := by
  simp [lowerHalf, List.range_succ]

theorem upperHalf_succ (site : Byte) (n : Nat) :
    upperHalf site (n + 1) = idGroup site (8 * n + 4) ++ upperHalf site n := by
  have hshift : ∀ k, n + 1 - 1 - (k + 1) = n - 1 - k := by omega
  simp only [upperHalf, List.range_succ_eq_map, List.flatMap_cons, List.flatMap_map, Nat.succ_eq_add_one, hshift]
  rfl

theorem channelLetters_append_singleton (banks : List BankLetter) (c : BankLetter) :
    (channelLetters (banks ++ [c])).length = (channelLetters banks).length + if isChannelBank c then 1 else 0 := by
  cases c <;> simp [channelLetters, isChannelBank]

/-- A channel letter has no entries behind the ABCD block (R153). -/
theorem tailTags_of_isChannelBank {spad : Bool} {c : BankLetter} (h : isChannelBank c = true) :
    tailTags spad c = [] := by
  cases c with
  | A | B | C | D | l | m => rfl
  | S | P => cases h

/-- One more letter makes the table of one more letter (R145). -/
theorem withLetter_scanned (spad : Bool) (site : Byte) (banks : List BankLetter) (c : BankLetter) :
    (scanned spad site banks).withLetter spad c = scanned spad site (banks ++ [c]) := by
  unfold Layout.withLetter
  rw [channelBanks_eq]
  cases hc : isChannelBank c with
  | true =>
    simp [scanned, channelLetters_append_singleton, hc, lowerHalf_succ, upperHalf_succ, tailTags_of_isChannelBank hc]
  | false => simp [scanned, channelLetters_append_singleton, hc]

/-- The scan goes through letters that are new, whatever follows them (R145). -/
theorem scanBanks_bankText {spad : Bool} {site : Byte} {pre banks : List BankLetter} (rest : List Byte)
    (h : (pre ++ banks).Nodup) :
    scanBanks spad (bankText banks ++ rest) (scanned spad site pre) =
      scanBanks spad rest (scanned spad site (pre ++ banks)) := by
  induction banks generalizing pre with
  | nil => simp [bankText]
  | cons c banks ih =>
    have hnew : c ∉ pre := fun hc => List.disjoint_of_nodup_append h hc List.mem_cons_self
    calc scanBanks spad (bankText (c :: banks) ++ rest) (scanned spad site pre)
        = scanBanks spad (bankText banks ++ rest) (scanned spad site (pre ++ [c])) := by
          rw [← withLetter_scanned]
          exact scanBanks_cons (letterEffect_eq_withLetter hnew)
      _ = scanBanks spad rest (scanned spad site (pre ++ c :: banks)) := by
          rw [ih (by simpa using h)]
          simp

/-- A bank text that scans names no letter twice (R143). -/
theorem nodup_of_scanBanks_ok {spad : Bool} {banks : List BankLetter} {lay lay' : Layout} (h : lay.banks.Nodup)
    (hscan : scanBanks spad (bankText banks) lay = .ok lay') : (lay.banks ++ banks).Nodup := by
  induction banks generalizing lay with
  | nil => simpa using h
  | cons c banks ih =>
    by_cases hc : c ∈ lay.banks
    · simp [bankText, scanBanks, letterOf_letterByte, letterEffect_of_mem hc] at hscan
    · obtain ⟨after, heffect, hbanks, _, _⟩ := letterEffect_of_not_mem (spad := spad) hc
      have hrest := ih (hbanks ▸ nodup_append_letter h hc) ((scanBanks_cons heffect).symm.trans hscan)
      simpa [hbanks] using hrest

/-! ### The inverse map -/

/-- `(site << 5) | ch` is a sum on a good site and channel (R108, R149). -/
theorem expectedId_ofNat {site ch : Nat} (hsite : site ≤ 6) (hch : ch < 32) :
    expectedId (BitVec.ofNat 8 site) ch = BitVec.ofNat 8 (32 * site + ch) := by
  refine BitVec.eq_of_toNat_eq ?_
  have hshift : (BitVec.ofNat 8 site <<< 5).toNat = site <<< 5 := by
    rw [BitVec.toNat_shiftLeft, BitVec.toNat_ofNat, Nat.shiftLeft_eq, Nat.shiftLeft_eq]
    omega
  rw [expectedId, BitVec.toNat_or, hshift, BitVec.toNat_ofNat, BitVec.toNat_ofNat, Nat.mod_eq_of_lt (by omega),
    ← Nat.shiftLeft_add_eq_or_of_lt (show ch < 2 ^ 5 from hch), Nat.shiftLeft_eq]
  omega

/-- Position 4k + w lies in group k of the lower half (R147, R155). -/
theorem blockTag_lower {site n k w : Nat} (hsite : site ≤ 6) (hn : n ≤ 4) (hk : k < n) (hw : w < 4) :
    blockTag site n (4 * k + w) = .id (expectedId (BitVec.ofNat 8 site) (8 * k + w)) := by
  have hdiv : (4 * k + w) / 4 = k := by omega
  have hmod : (4 * k + w) % 4 = w := by omega
  rw [expectedId_ofNat hsite (by omega), blockTag, if_pos (by omega), hdiv, hmod]

/-- Position 4n + 4k + w lies in group n - 1 - k of the upper half (R148, R155). -/
theorem blockTag_upper {site n k w : Nat} (hsite : site ≤ 6) (hn : n ≤ 4) (hk : k < n) (hw : w < 4) :
    blockTag site n (4 * n + (4 * k + w)) = .id (expectedId (BitVec.ofNat 8 site) (8 * (n - 1 - k) + 4 + w)) := by
  have hdiv : (4 * n + (4 * k + w) - 4 * n) / 4 = k := by omega
  have hmod : (4 * n + (4 * k + w)) % 4 = w := by omega
  rw [expectedId_ofNat hsite (by omega), blockTag, if_neg (by omega), hdiv, hmod]

theorem map_range_four_mul {α : Type} (f : Nat → α) (n : Nat) :
    (List.range (4 * n)).map f =
      (List.range n).flatMap fun k => [f (4 * k), f (4 * k + 1), f (4 * k + 2), f (4 * k + 3)] := by
  induction n with
  | zero => rfl
  | succ n ih => simp [Nat.mul_succ, List.range_succ, ih]

/-- The two halves are the ABCD block of the inverse map (R155). -/
theorem lowerHalf_append_upperHalf {site n : Nat} (hsite : site ≤ 6) (hn : n ≤ 4) :
    lowerHalf (BitVec.ofNat 8 site) n ++ upperHalf (BitVec.ofNat 8 site) n =
      (List.range (8 * n)).map (blockTag site n) := by
  have hlower : lowerHalf (BitVec.ofNat 8 site) n = (List.range (4 * n)).map (blockTag site n) := by
    rw [map_range_four_mul]
    refine List.flatMap_congr fun k hk => ?_
    have hpos := fun w => blockTag_lower (w := w) hsite hn (List.mem_range.mp hk)
    simp [idGroup, hpos, show blockTag site n (4 * k) = _ from hpos 0 (by decide)]
  have hupper : upperHalf (BitVec.ofNat 8 site) n =
      (List.range (4 * n)).map (fun p => blockTag site n (4 * n + p)) := by
    rw [map_range_four_mul]
    refine List.flatMap_congr fun k hk => ?_
    have hpos := fun w => blockTag_upper (w := w) hsite hn (List.mem_range.mp hk)
    simp [idGroup, hpos, show blockTag site n (4 * n + 4 * k) = _ from hpos 0 (by decide)]
  rw [hlower, hupper, show 8 * n = 4 * n + 4 * n by omega, List.range_add, List.map_append, List.map_map]
  rfl

/-- There are at most four channel letters (R146). -/
theorem channelLetters_length_le {banks : List BankLetter} (h : banks.Nodup) : (channelLetters banks).length ≤ 4 :=
  channelBanks_eq (scanned false 0 banks) ▸ channelBanks_le (lay := scanned false 0 banks) h

/-- The scan's table is the one of the index rules (R147 to R155). -/
theorem layoutTable_scanned {spad : Bool} {site : Nat} {banks : List BankLetter} (hsite : site ≤ 6)
    (h : banks.Nodup) : layoutTable (scanned spad (BitVec.ofNat 8 site) banks) = specTable spad site banks := by
  simp only [layoutTable, scanned, specTable, lowerHalf_append_upperHalf hsite (channelLetters_length_le h)]

/-! ### The table length -/

/-- S has eight entries behind the ABCD block and P one (R150, R151). -/
theorem tail_length (spad : Bool) (banks : List BankLetter) :
    (banks.flatMap (tailTags spad)).length = 8 * banks.count .S + banks.count .P := by
  induction banks with
  | nil => rfl
  | cons c banks ih =>
    rw [List.flatMap_cons, List.length_append, ih]
    cases c <;> simp [tailTags] <;> omega

/-- The length of R154. -/
theorem specTable_length {spad : Bool} {site : Nat} {banks : List BankLetter} (h : banks.Nodup) :
    (specTable spad site banks).length = specLength banks := by
  simp only [specTable, specLength, List.length_append, List.length_map, List.length_range, tail_length, h.count]
  split <;> omega

theorem layoutTable_scanned_length {spad : Bool} {site : Nat} {banks : List BankLetter} (hsite : site ≤ 6)
    (h : banks.Nodup) : (layoutTable (scanned spad (BitVec.ofNat 8 site) banks)).length = specLength banks := by
  rw [layoutTable_scanned hsite h, specTable_length h]

/-! ### The site text -/

theorem isDigit_iff {b : Byte} : isDigit b = true ↔ 0x30 ≤ b.toNat ∧ b.toNat ≤ 0x39 := by
  simp [isDigit]

theorem decimalFrom_eq_foldl (acc : Nat) (text : List Byte) :
    decimalFrom acc text = text.foldl (fun n b => 10 * n + (b.toNat - 0x30)) acc := by
  induction text generalizing acc with
  | nil => rfl
  | cons b rest ih => exact ih _

theorem decimalFrom_zero (text : List Byte) : decimalFrom 0 text = siteValue text := decimalFrom_eq_foldl 0 text

/-- "=" is no digit (R107). -/
theorem eqSign_not_mem_of_digits {text : List Byte} (h : ∀ b ∈ text, 0x30 ≤ b.toNat ∧ b.toNat ≤ 0x39) :
    (0x3D : Byte) ∉ text := fun hmem => absurd (h _ hmem).2 (by decide)

/-- A text that is empty or has a byte that is no digit spells no number (R141). -/
theorem parseSite_malformed {text : List Byte} (h : text = [] ∨ ∃ b ∈ text, b.toNat < 0x30 ∨ 0x39 < b.toNat) :
    parseSite text = .error .cfgMalformed := by
  refine if_pos ?_
  rcases h with rfl | ⟨b, hmem, hb⟩
  · rfl
  · have hdigit : ¬isDigit b = true := by rw [isDigit_iff]; omega
    simpa using Or.inr ⟨b, hmem, by simpa using hdigit⟩

/-- A text of digits is judged by its value (R141). -/
theorem parseSite_digits {text : List Byte} (hne : text ≠ []) (h : ∀ b ∈ text, 0x30 ≤ b.toNat ∧ b.toNat ≤ 0x39) :
    parseSite text =
      if 6 < siteValue text then .error .cfgBadSite else .ok (BitVec.ofNat 8 (siteValue text)) := by
  have hdigits : text.all isDigit = true := List.all_eq_true.mpr fun b hb => isDigit_iff.mpr (h b hb)
  simp [parseSite, decimalFrom_zero, hdigits, hne]

/-- A text that parses spells a good site (R141). -/
theorem spellsSite_of_parseSite {text : List Byte} {parsed : Byte} (h : parseSite text = .ok parsed) :
    ∃ site, spellsSite text site := by
  by_cases hbad : text = [] ∨ ∃ b ∈ text, b.toNat < 0x30 ∨ 0x39 < b.toNat
  · rw [parseSite_malformed hbad] at h
    cases h
  · obtain ⟨hne, hall⟩ := not_or.mp hbad
    have hdigits : ∀ b ∈ text, 0x30 ≤ b.toNat ∧ b.toNat ≤ 0x39 := by simpa using hall
    rw [parseSite_digits hne hdigits] at h
    split at h
    · cases h
    · exact ⟨_, hne, hdigits, rfl, by omega⟩

theorem digits_of_spellsSite {text : List Byte} {site : Nat} (h : spellsSite text site) :
    ∀ b ∈ text, 0x30 ≤ b.toNat ∧ b.toNat ≤ 0x39 := h.2.1

theorem site_le_of_spellsSite {text : List Byte} {site : Nat} (h : spellsSite text site) : site ≤ 6 := h.2.2.2

theorem parseSite_of_spellsSite {text : List Byte} {site : Nat} (h : spellsSite text site) :
    parseSite text = .ok (BitVec.ofNat 8 site) := by
  obtain ⟨hne, hdigits, rfl, hle⟩ := h
  rw [parseSite_digits hne hdigits, if_neg (by omega)]

/-! ### The definition text -/

/-- A bad site text is the first fault (R141, R145). -/
theorem buildDefinition_of_bad_site {spad : Bool} {st rest : List Byte} {code : FatalCode} (heq : (0x3D : Byte) ∉ st)
    (hsite : parseSite st = .error code) : buildDefinition spad (st ++ 0x3D :: rest) = .error code := by
  simp only [buildDefinition, splitDefinition_append heq, hsite]

/-- Behind a good site text stand the scan and the whole-text checks (R145). -/
theorem buildDefinition_of_site {spad : Bool} {st rest : List Byte} {site : Byte} (heq : (0x3D : Byte) ∉ st)
    (hsite : parseSite st = .ok site) :
    buildDefinition spad (st ++ 0x3D :: rest) = (scanBanks spad rest (scanned spad site [])).bind finishLayout := by
  have hidle : { Layout.idle with site := site } = scanned spad site [] := rfl
  simp only [buildDefinition, splitDefinition_append heq, hsite, hidle]
  cases scanBanks spad rest (scanned spad site []) <;> rfl

/-- A definition with a good site text and new letters is decided by what follows the letters. -/
theorem buildDefinition_append_rest {spad : Bool} {st : List Byte} {site : Nat} {good : List BankLetter}
    (rest : List Byte) (hst : spellsSite st site) (hgood : good.Nodup) :
    buildDefinition spad (definitionText st good ++ rest) =
      (scanBanks spad rest (scanned spad (BitVec.ofNat 8 site) good)).bind finishLayout := by
  rw [definitionText, List.append_assoc, List.cons_append,
    buildDefinition_of_site (eqSign_not_mem_of_digits (digits_of_spellsSite hst)) (parseSite_of_spellsSite hst),
    scanBanks_bankText rest (by simpa using hgood), List.nil_append]

/-- The whole-text checks on new letters, in the words of the statements (R144, R152, R155). -/
theorem finishLayout_scanned {spad : Bool} {site : Nat} {banks : List BankLetter} (hsite : site ≤ 6)
    (h : banks.Nodup) :
    finishLayout (scanned spad (BitVec.ofNat 8 site) banks) =
      if .l ∈ banks ∧ .m ∈ banks then .error .cfgBothOrient
      else if specLength banks = 0 then .error .cfgEmpty
      else if (.l ∈ banks ∨ .m ∈ banks) ∧ ¬(.A ∈ banks ∧ .B ∈ banks ∧ .C ∈ banks ∧ .D ∈ banks) then
        .error .cfgBsNeedsAbcd
      else .ok { site := BitVec.ofNat 8 site, table := specTable spad site banks, variant := specVariant banks } := by
  rw [finishLayout, layoutTable_scanned hsite h, specTable_length h]
  rfl

/-- A definition of a good site text and new letters is decided by the whole-text checks (R145). -/
theorem buildDefinition_definitionText {spad : Bool} {st : List Byte} {site : Nat} {banks : List BankLetter}
    (hst : spellsSite st site) (h : banks.Nodup) :
    buildDefinition spad (definitionText st banks) = finishLayout (scanned spad (BitVec.ofNat 8 site) banks) := by
  rw [← List.append_nil (definitionText st banks)]
  exact buildDefinition_append_rest [] hst h

/-- A definition that builds names no letter twice (R143). -/
theorem nodup_of_buildDefinition_ok {spad : Bool} {st : List Byte} {site : Nat} {banks : List BankLetter}
    {b : BuiltTable} (hst : spellsSite st site) (hbuild : buildDefinition spad (definitionText st banks) = .ok b) :
    banks.Nodup := by
  have htext : definitionText st [] ++ bankText banks = definitionText st banks := by
    simp [definitionText, bankText]
  rw [← htext, buildDefinition_append_rest _ hst List.nodup_nil] at hbuild
  cases hscan : scanBanks spad (bankText banks) (scanned spad (BitVec.ofNat 8 site) []) with
  | error code =>
    rw [hscan] at hbuild
    cases hbuild
  | ok lay => exact nodup_of_scanBanks_ok List.nodup_nil hscan

/-- Settles O24: the scan, then the three checks of R144, which pass. -/
theorem buildFollowsIndexRules : Obligations.BuildFollowsIndexRules := by
  intro spad st site banks hst h ⟨hboth, hlen, habcd⟩
  rw [buildDefinition_definitionText hst h, finishLayout_scanned (site_le_of_spellsSite hst) h, if_neg hboth, if_neg hlen,
    if_neg fun hbs => hbs.2 (habcd hbs.1)]

/-- Settles O25: what builds has a good site text and new letters, so its table is that of the index rules. -/
theorem tableLengthFormula : Obligations.TableLengthFormula := by
  intro spad st banks b heq hbuild
  have hinv := builtInv_buildDefinition hbuild
  refine ⟨?_, hinv.len_pos, hinv.len_le⟩
  cases hsite : parseSite st with
  | error code =>
    rw [buildDefinition_of_bad_site heq hsite] at hbuild
    cases hbuild
  | ok parsed =>
    obtain ⟨site, hst⟩ := spellsSite_of_parseSite hsite
    have h := nodup_of_buildDefinition_ok hst hbuild
    have hfinish := (buildDefinition_definitionText hst h).symm.trans hbuild
    obtain ⟨_, _, rfl⟩ := finishLayout_ok hfinish
    exact layoutTable_scanned_length (site_le_of_spellsSite hst) h

/-! ### The faults of a definition -/

/-- Settles O26, check by check (R145). -/
theorem definitionFaultsInOrder : Obligations.DefinitionFaultsInOrder := by
  intro spad
  refine ⟨?noEqSign, ?badSiteText, ?badSite, ?badChar, ?dupBank, ?bothOrient, ?empty, ?needsAbcd⟩
  case noEqSign =>
    intro d heq
    rw [buildDefinition, splitDefinition_eq_none heq]
  case badSiteText => exact fun st rest heq hst => buildDefinition_of_bad_site heq (parseSite_malformed hst)
  case badSite =>
    intro st rest hne hdigits hbig
    exact buildDefinition_of_bad_site (eqSign_not_mem_of_digits hdigits)
      ((parseSite_digits hne hdigits).trans (if_pos hbig))
  case badChar =>
    intro st site good b rest hst hgood hforeign
    have hb : letterOf b = none := Option.eq_none_iff_forall_ne_some.mpr fun c hc =>
      hforeign c (letterByte_of_letterOf hc).symm
    rw [buildDefinition_append_rest _ hst hgood, scanBanks, hb]
    rfl
  case dupBank =>
    intro st site good c rest hst hgood hc
    rw [buildDefinition_append_rest _ hst hgood, scanBanks, letterOf_letterByte]
    simp only [letterEffect_of_mem (lay := scanned spad (BitVec.ofNat 8 site) good) hc]
    rfl
  case bothOrient =>
    intro st site banks hst h hl hm
    rw [buildDefinition_definitionText hst h, finishLayout_scanned (site_le_of_spellsSite hst) h, if_pos ⟨hl, hm⟩]
  case empty =>
    intro st site banks hst hbanks
    rcases hbanks with rfl | rfl | rfl <;> exact buildDefinition_definitionText hst (by decide)
  case needsAbcd =>
    intro st site banks hst h hboth hbs hlen habcd
    rw [buildDefinition_definitionText hst h, finishLayout_scanned (site_le_of_spellsSite hst) h, if_neg hboth,
      if_neg hlen, if_pos ⟨hbs, habcd⟩]

end Sys2Proof.Machine
end

section
/-! BUILD and ADD_MODULE (R157, R158): the whole next state on a definition that builds, and the fault entry otherwise. -/

namespace Sys2Proof.Machine

open Sys2Proof.Statement

/-! ### BUILD -/

/-- BUILD_TAG holds the table's tag words and 0 behind them (R157). -/
theorem buildTags_getElem (table : List Tag) {i : Nat} (hi : i < 41) :
    (buildTags table)[i] = ((table.map tagWord)[i]?).getD 0 := by
  by_cases hlen : i < table.length
  · show ((table.map tagWord ++ List.replicate 41 0).take 41)[i]'(by simp; omega) = _
    rw [List.getElem_take, List.getElem_append_left (by simpa using hlen)]
    simp [hlen]
  · rw [buildTags_eq_zero hi (by omega), List.getElem?_eq_none (by simpa using hlen)]
    rfl

/-- BUILD is legal in every phase but FATAL (R304). -/
theorem mem_phases_of_ne_fatal {p : Phase} (h : p ≠ .fatal) : p ∈ [Phase.config, .running, .done] := by
  cases p with
  | config | running | done => decide
  | fatal => exact absurd rfl h

theorem guarded_build {n : Byte} {text : List Byte} {s : State} (hf : s.phase ≠ .fatal)
    (hlen : text.length = n.toNat) (body : Host.Outcome State Fault Refusal) :
    guarded (text.length == n.toNat) [.config, .running, .done] s body = body :=
  guarded_of_legal (beq_iff_eq.mpr hlen) (mem_phases_of_ne_fatal hf) hf

theorem execBuild_of_ok {n : Byte} {text : List Byte} {s : State} {b : BuiltTable} (hf : s.phase ≠ .fatal)
    (hlen : text.length = n.toNat) (hb : buildDefinition (spadMon s.config) text = .ok b) :
    execBuild n text s = .next (State.answer (BitVec.ofNat 64 b.table.length)
      { s with buildLen := BitVec.ofNat 64 b.table.length, buildTag := buildTags b.table }) := by
  rw [execBuild, guarded_build hf hlen, hb]

theorem execBuild_of_error {n : Byte} {text : List Byte} {s : State} {code : FatalCode} (hf : s.phase ≠ .fatal)
    (hlen : text.length = n.toNat) (hb : buildDefinition (spadMon s.config) text = .error code) :
    execBuild n text s = .next (s.raise code) := by
  rw [execBuild, guarded_build hf hlen, hb]

/-- Settles O27: the buffer is `buildTags`, or the definition's code is raised. -/
theorem buildFillsBuildBuffer : Obligations.BuildFillsBuildBuffer := fun _ _ _ hf hlen =>
  ⟨fun b hb => ⟨buildTags b.table, fun _ hi => buildTags_getElem b.table hi, execBuild_of_ok hf hlen hb⟩,
    fun _ hb => execBuild_of_error hf hlen hb⟩

/-! ### ADD_MODULE -/

theorem guarded_addModule {n : Byte} {text : List Byte} {s : State} (hphase : s.phase = .config)
    (hlen : text.length = n.toNat) (body : Host.Outcome State Fault Refusal) :
    guarded (text.length == n.toNat) [.config] s body = body :=
  guarded_of_legal (beq_iff_eq.mpr hlen) (by simp [hphase]) (by simp [hphase])

theorem execAddModule_of_full {n : Byte} {text : List Byte} {s : State} (hphase : s.phase = .config)
    (hlen : text.length = n.toNat) (hfull : s.modules.length = 256) :
    execAddModule n text s = .next (s.raise .cfgTooManyModules) := by
  rw [execAddModule, guarded_addModule hphase hlen, if_pos hfull]

theorem execAddModule_of_error {n : Byte} {text : List Byte} {s : State} {code : FatalCode}
    (hphase : s.phase = .config) (hlen : text.length = n.toNat) (hroom : s.modules.length ≠ 256)
    (hb : buildDefinition (spadMon s.config) text = .error code) :
    execAddModule n text s = .next (s.raise code) := by
  rw [execAddModule, guarded_addModule hphase hlen, if_neg hroom, hb]

theorem execAddModule_of_ok {n : Byte} {text : List Byte} {s : State} {b : BuiltTable} (hphase : s.phase = .config)
    (hlen : text.length = n.toNat) (hroom : s.modules.length ≠ 256)
    (hb : buildDefinition (spadMon s.config) text = .ok b) :
    execAddModule n text s = .next (State.answer (BitVec.ofNat 64 s.modules.length)
      { s with modules := s.modules ++ [newModule (BitVec.ofNat 64 (frameBytes s)) b] }) := by
  rw [execAddModule, guarded_addModule hphase hlen, if_neg hroom, hb]

/-- Settles O28: the new module's offset is FRAME_BYTES (R34, R260). -/
theorem addModuleAppendsModule : Obligations.AddModuleAppendsModule := fun _ _ _ _ hphase hlen hroom hb =>
  execAddModule_of_ok hphase hlen hroom hb

/-- Settles O29: the room is asked for before the definition is read. -/
theorem addModuleFaultsInOrder : Obligations.AddModuleFaultsInOrder := fun _ _ _ hphase hlen =>
  ⟨execAddModule_of_full hphase hlen, fun _ hroom hb => execAddModule_of_error hphase hlen hroom hb⟩

end Sys2Proof.Machine
end

section
/-! The word loop in full (R181, R185 to R190), where the SampleCounter and each slot have at most one word: which words
fail, what the loop leaves of LAST_COUNTER and the slots, and the events it gives (R193, R194). -/

namespace Sys2Proof.Machine

open Sys2Proof.Statement

/-! ### One word -/

/-- A word adds 1 to error_count exactly when it fails (R185 to R189). -/
theorem wordPolicy_ec (config : DWord) (tag : Tag) (v : Word) (a : WordLoop) :
    (wordPolicy (idMask config) tag v a).ec =
      if wordFails (mask config) a.lastCounter (tag, v) then a.ec + 1 else a.ec := by
  have hmask : idMask config = mask config := rfl
  cases tag with
  | noCheck | pmod | scratchpad => rfl
  | sampleCounter | id =>
    simp only [wordPolicy, wordFails, hmask, bne_iff_ne, ne_eq, ite_not]
    split <;> rfl

/-- `passed` (R181) says that the word does not fail. -/
theorem wordPassed_eq (config : DWord) (tag : Tag) (v : Word) (a : WordLoop) :
    wordPassed (idMask config) tag v a = !wordFails (mask config) a.lastCounter (tag, v) := by
  unfold wordPassed
  rw [wordPolicy_ec]
  cases wordFails (mask config) a.lastCounter (tag, v) <;> simp

/-- What a Scratchpad word does to its slot (R187). -/
theorem wordPolicy_scratchpad (mask : Word) (j : Fin 7) (v : Word) (a : WordLoop) :
    (wordPolicy mask (.scratchpad j) v a).spad[j] = v ∧
      (wordPolicy mask (.scratchpad j) v a).changed[j] =
        if v ≠ a.spad[j] then some (a.spad[j], v) else a.changed[j] := by
  refine ⟨by simp [wordPolicy], ?_⟩
  simp only [wordPolicy]
  split <;> simp

/-- Only the word of a slot records a change of it (R187). -/
theorem wordPolicy_changed {mask : Word} {tag : Tag} {v : Word} {a : WordLoop} {j : Fin 7}
    (h : tag ≠ .scratchpad j) : (wordPolicy mask tag v a).changed[j] = a.changed[j] := by
  cases tag with
  | noCheck | pmod => rfl
  | scratchpad k =>
    have hkj : k.val ≠ j.val := fun hval => h (congrArg _ (Fin.ext hval))
    simp only [wordPolicy]
    split <;> simp [Vector.getElem_set_ne, hkj]
  | sampleCounter | id =>
    simp only [wordPolicy]
    split <;> rfl

/-! ### The counter is read before it moves -/

/-- LAST_COUNTER decides over the counter word alone. -/
theorem wordFails_of_ne {w : Tag × Word} (h : w.1 ≠ .sampleCounter) (mask last last' : Word) :
    wordFails mask last w = wordFails mask last' w := by
  obtain ⟨tag, v⟩ := w
  cases tag with
  | sampleCounter => exact absurd rfl h
  | noCheck | pmod | scratchpad | id => rfl

/-- With one counter word at most, a word leaves the verdicts of those behind it as they were (R190). -/
theorem wordFails_after_checkWord {w : Tag × Word} {rest : List (Tag × Word)}
    (hone : ((w :: rest).map Prod.fst).count .sampleCounter ≤ 1) (config : DWord) (m i : Nat) (a : WordLoop) :
    ∀ u ∈ rest, wordFails (mask config) (checkWord config m i w.1 w.2 a).lastCounter u =
      wordFails (mask config) a.lastCounter u := by
  intro u hu
  by_cases hw : w.1 = .sampleCounter
  · have hnone : Tag.sampleCounter ∉ rest.map Prod.fst := by
      simpa [hw, List.count_eq_zero] using hone
    exact wordFails_of_ne (fun h => hnone (h ▸ List.mem_map_of_mem hu)) _ _ _
  · rw [show (checkWord config m i w.1 w.2 a).lastCounter = a.lastCounter from wordPolicy_lastCounter hw]

theorem count_tail_le_one {w : Tag × Word} {rest : List (Tag × Word)} {tag : Tag}
    (hone : ((w :: rest).map Prod.fst).count tag ≤ 1) : (rest.map Prod.fst).count tag ≤ 1 :=
  List.count_le_count_cons.trans hone

/-- error_count after the loop: the failing words, against LAST_COUNTER before it (R181, R188, R189). -/
theorem checkWords_ec {config : DWord} {m i : Nat} {ws : List (Tag × Word)} {a : WordLoop}
    (hone : (ws.map Prod.fst).count .sampleCounter ≤ 1) :
    (checkWords config m i ws a).ec =
      a.ec + BitVec.ofNat 32 (ws.countP (wordFails (mask config) a.lastCounter)) := by
  induction ws generalizing i a with
  | nil => simp [checkWords]
  | cons w rest ih =>
    have hlater := wordFails_after_checkWord hone config m i a
    have hword : (checkWord config m i w.1 w.2 a).ec = _ := wordPolicy_ec config w.1 w.2 a
    rw [checkWords_cons, ih (count_tail_le_one hone), List.countP_cons, hword,
      List.countP_congr fun u hu => by rw [hlater u hu]]
    split <;> simp [BitVec.ofNat_add, BitVec.add_assoc, BitVec.add_comm 1#32]

/-- The Word events of the loop: one for every word, in index order, when CONFIG.VERBOSE = 1 (R193). -/
theorem checkWords_events {config : DWord} {m i : Nat} {ws : List (Tag × Word)} {a : WordLoop}
    (hone : (ws.map Prod.fst).count .sampleCounter ≤ 1) :
    (checkWords config m i ws a).events =
      a.events ++ if verbose config then
        (ws.zipIdx i).map fun e =>
          .word m e.2 e.1.1 e.1.2 (!wordFails (mask config) a.lastCounter e.1)
      else [] := by
  induction ws generalizing i a with
  | nil => simp [checkWords]
  | cons w rest ih =>
    have hlater := wordFails_after_checkWord hone config m i a
    have hevents : (checkWord config m i w.1 w.2 a).events = if verbose config then
        a.events ++ [.word m i w.1 w.2 (!wordFails (mask config) a.lastCounter w)] else a.events := by
      rw [← wordPassed_eq]
      rfl
    rw [checkWords_cons, ih (count_tail_le_one hone), hevents, List.zipIdx_cons, List.map_cons]
    split
    · rw [List.append_assoc, List.singleton_append,
        List.map_congr_left fun e he => by rw [hlater e.1 (List.fst_mem_of_mem_zipIdx he)]]
    · rfl

/-! ### The one word of a tag -/

theorem checkWords_append (config : DWord) (m i : Nat) (ws us : List (Tag × Word)) (a : WordLoop) :
    checkWords config m i (ws ++ us) a = checkWords config m (i + ws.length) us (checkWords config m i ws a) := by
  induction ws generalizing i a with
  | nil => rfl
  | cons w rest ih =>
    rw [List.cons_append, checkWords_cons, checkWords_cons, ih, List.length_cons, Nat.add_assoc, Nat.add_comm 1]

/-- The word of a tag that occurs once parts the slice into words of other tags. -/
theorem exists_only_word {ws : List (Tag × Word)} {tag : Tag} {v : Word}
    (hone : (ws.map Prod.fst).count tag ≤ 1) (hmem : (tag, v) ∈ ws) :
    ∃ before after, ws = before ++ (tag, v) :: after ∧ (∀ w ∈ before, w.1 ≠ tag) ∧ ∀ w ∈ after, w.1 ≠ tag := by
  obtain ⟨before, after, rfl⟩ := List.append_of_mem hmem
  rw [List.map_append, List.map_cons, List.count_append, List.count_cons_self] at hone
  have hbefore : (before.map Prod.fst).count tag = 0 := by omega
  have hafter : (after.map Prod.fst).count tag = 0 := by omega
  exact ⟨before, after, rfl,
    fun w hw h => List.count_eq_zero.mp hbefore (h ▸ List.mem_map_of_mem hw),
    fun w hw h => List.count_eq_zero.mp hafter (h ▸ List.mem_map_of_mem hw)⟩

/-- LAST_COUNTER takes the counter word exactly when it is the successor (R188). -/
theorem checkWords_lastCounter_of_mem {config : DWord} {m i : Nat} {ws : List (Tag × Word)} {a : WordLoop} {v : Word}
    (hone : (ws.map Prod.fst).count .sampleCounter ≤ 1) (hmem : (Tag.sampleCounter, v) ∈ ws) :
    (checkWords config m i ws a).lastCounter = if v = a.lastCounter + 1 then v else a.lastCounter := by
  obtain ⟨before, after, rfl, hbefore, hafter⟩ := exists_only_word hone hmem
  rw [checkWords_append, checkWords_cons, checkWords_lastCounter hafter]
  have hkept := checkWords_lastCounter (config := config) (m := m) (i := i) (a := a) hbefore
  simp only [checkWord, wordPolicy, hkept]
  split <;> rfl

theorem checkWords_changed {config : DWord} {m i : Nat} {ws : List (Tag × Word)} {a : WordLoop} {j : Fin 7}
    (h : ∀ w ∈ ws, w.1 ≠ .scratchpad j) : (checkWords config m i ws a).changed[j] = a.changed[j] := by
  induction ws generalizing i a with
  | nil => rfl
  | cons w rest ih =>
    rw [checkWords_cons, ih fun u hu => h u (List.mem_cons_of_mem _ hu)]
    exact wordPolicy_changed (h w List.mem_cons_self)

/-- A slot takes its word, and the change is recorded if there is one (R187). -/
theorem checkWords_slot_of_mem {config : DWord} {m i : Nat} {ws : List (Tag × Word)} {a : WordLoop} {j : Fin 7}
    {v : Word} (hone : (ws.map Prod.fst).count (.scratchpad j) ≤ 1) (hmem : (Tag.scratchpad j, v) ∈ ws) :
    (checkWords config m i ws a).spad[j] = v ∧
      (checkWords config m i ws a).changed[j] =
        if v ≠ a.spad[j] then some (a.spad[j], v) else a.changed[j] := by
  obtain ⟨before, after, rfl, hbefore, hafter⟩ := exists_only_word hone hmem
  have hslot := wordPolicy_scratchpad (idMask config) j v (checkWords config m i before a)
  rw [checkWords_spad hbefore, checkWords_changed hbefore] at hslot
  rw [checkWords_append, checkWords_cons, checkWords_spad hafter, checkWords_changed hafter]
  exact hslot

end Sys2Proof.Machine
end

section
/-! VALIDATE (R180, R181): the event signature, the words of a slice, and the bitslice decoding behind them. -/

namespace Sys2Proof.Machine

open Sys2Proof.Statement

/-! ### VALIDATE answers with the slice's validation -/

/-- VALIDATE in CONFIG, with a frame of the right length and a registered module (R180, R335). -/
theorem exec_validate_of_ok {s : State} {m : Byte} {f : List Word} {x : Module} {slice : List Word} {w : Validation}
    (hphase : s.phase = .config) (hlen : f.length = frameWords s) (hx : s.modules[m.toNat]? = some x)
    (hslice : frameSlice f (x.offset.toNat / 4) x.table.length = some slice)
    (hw : validateSlice s.params s.config m.toNat x slice = .ok w) :
    exec (.validate m f) s =
      .next (((s.withFrame f).withValidation m.toNat w).answer (verdictWord w.verdict)) := by
  obtain ⟨hm, _⟩ := List.getElem?_eq_some_iff.mp hx
  have hmodule : validateModule m.toNat x { s with frame := f } =
      .ok ((s.withFrame f).withValidation m.toNat w, w.verdict) := by
    simp only [validateModule, hslice, hw, State.withFrame]
  change execValidate m f s = _
  rw [execValidate, guarded_of_legal (by simp [hlen, hm]) (by simp [hphase]) (by simp [hphase]), hx]
  simp only [hmodule]

/-- The word of a validation without event signature (R116). -/
theorem verdictWord_of_words (ec : Word) :
    verdictWord { ok := ec == 0, ec := ec, es := false } =
      (ec.zeroExtend 64 ||| if ec = 0 then 0x100000000 else 0) := by
  by_cases h : ec = 0 <;> simp [verdictWord, h]

/-! ### The event signature -/

theorem eventSignature_iff (magic : Word) (slice : List Word) :
    eventSignature magic slice = true ↔ signature magic slice := by
  match slice with
  | [] | [_] | [_, _] | [_, _, _] => simp [eventSignature, signature]
  | a :: b :: c :: d :: rest =>
    simp only [eventSignature, signature, Bool.and_eq_true, beq_iff_eq, List.length_cons]
    constructor
    · rintro ⟨⟨⟨rfl, rfl⟩, rfl⟩, rfl⟩
      refine ⟨by omega, fun k hk => ?_⟩
      match k, hk with
      | 0, _ | 1, _ | 2, _ | 3, _ => rfl
    · rintro ⟨_, h⟩
      exact ⟨⟨⟨by simpa using h 0 (by decide), by simpa using h 1 (by decide)⟩, by simpa using h 2 (by decide)⟩,
        by simpa using h 3 (by decide)⟩

theorem validateSlice_of_signature {p : Params} {slice : List Word} (h : signature p.esMagic slice) (config : DWord)
    (m : Nat) (x : Module) : validateSlice p config m x slice = .ok (esValidation m x) := by
  rw [validateSlice, if_pos ((eventSignature_iff _ _).mpr h)]

/-- Settles O34: the signature is looked at before any word (R184). -/
theorem eventSignatureSkipsSlice : Obligations.EventSignatureSkipsSlice := by
  intro m f s x slice hphase hlen hx hslice hsig
  rw [exec_validate_of_ok hphase hlen hx hslice (validateSlice_of_signature hsig s.config m.toNat x)]
  simp [State.answer, State.respond, State.withValidation, State.withFrame, esValidation, verdictWord, answered]

/-! ### The words of the slice -/

/-- The word loop's state behind the last word of the slice. -/
def loopEnd (config : DWord) (m : Nat) (x : Module) (slice : List Word) : WordLoop :=
  checkWords config m 0 (x.table.zip slice) (wordLoopStart x)

/-- The bitslice decoding behind the words of the slice (R192). -/
def decoding (p : Params) (config : DWord) (m : Nat) (x : Module) (slice : List Word) : BitsliceOutcome :=
  bitsliceStep p config m (afterWords x (loopEnd config m x slice)) (slice.take 32)

/-- The validation of a slice whose words all passed, in a bitslice module (R192). -/
def bitsliceValidation (p : Params) (config : DWord) (m : Nat) (x : Module) (slice : List Word) : Validation :=
  { module := (decoding p config m x slice).module
    violation := (decoding p config m x slice).violation
    events := (wordsValidation config m x slice).events ++ (decoding p config m x slice).events
    verdict := (wordsValidation config m x slice).verdict }

/-- The validation of a slice that begins with no event signature. -/
def reachedValidation (s : State) (m : Nat) (x : Module) (slice : List Word) : Validation :=
  if x.variant = .standard ∨ errorCount s.config x slice ≠ 0 then wordsValidation s.config m x slice
  else bitsliceValidation s.params s.config m x slice

section Words

variable {s : State} {m : Byte} {f : List Word} {x : Module} {slice : List Word}

/-- The tags of the words are the module's table. -/
theorem map_fst_zip_slice (h : ReachesWords s m f x slice) : (x.table.zip slice).map Prod.fst = x.table :=
  List.map_fst_zip (frameSlice_length h.slice_eq).ge

theorem words_one_counter (h : ReachesWords s m f x slice) :
    ((x.table.zip slice).map Prod.fst).count .sampleCounter ≤ 1 :=
  (map_fst_zip_slice h).symm ▸ h.one_counter

theorem words_one_slot (h : ReachesWords s m f x slice) (j : Fin 7) :
    ((x.table.zip slice).map Prod.fst).count (.scratchpad j) ≤ 1 :=
  (map_fst_zip_slice h).symm ▸ h.one_slot j

theorem loopEnd_ec (h : ReachesWords s m f x slice) :
    (loopEnd s.config m.toNat x slice).ec = errorCount s.config x slice := by
  rw [loopEnd, checkWords_ec (words_one_counter h)]
  exact BitVec.zero_add _

theorem loopEnd_events (h : ReachesWords s m f x slice) :
    (loopEnd s.config m.toNat x slice).events = wordEvents s.config m.toNat x slice :=
  checkWords_events (words_one_counter h)

theorem wordLoopStart_changed (x : Module) (j : Fin 7) : (wordLoopStart x).changed[j] = none :=
  List.getElem_replicate (n := 7) j.isLt

/-- The echo of the recorded changes gives the changed slots in increasing order (R194). -/
theorem echoScratchpad_loopEnd (h : ReachesWords s m f x slice) :
    echoScratchpad m.toNat (loopEnd s.config m.toNat x slice).changed = spadEvents m.toNat x slice := by
  have hslots : ([0, 1, 2, 3, 4, 5, 6] : List (Fin 7)) = List.finRange 7 := by decide
  rw [echoScratchpad, hslots]
  refine List.filterMap_congr fun j _ => ?_
  cases hfind : (x.table.zip slice).find? fun e => decide (e.1 = Tag.scratchpad j) with
  | none =>
    have hno : ∀ w ∈ x.table.zip slice, w.1 ≠ .scratchpad j := by simpa using hfind
    rw [loopEnd, checkWords_changed hno, wordLoopStart_changed]
  | some e =>
    obtain ⟨tag, v⟩ := e
    obtain rfl : tag = .scratchpad j := by simpa using List.find?_some hfind
    rw [loopEnd, (checkWords_slot_of_mem (words_one_slot h j) (List.mem_of_find?_eq_some hfind)).2,
      wordLoopStart_changed, show (wordLoopStart x).spad = x.spad from rfl]
    by_cases hv : v ≠ x.spad[j]
    · simp only [if_pos hv]
    · simp only [if_neg hv]

/-! ### The validation and its parts -/

theorem validateSlice_of_reachesWords (h : ReachesWords s m f x slice) :
    validateSlice s.params s.config m.toNat x slice = .ok (reachedValidation s m.toNat x slice) := by
  have hec := loopEnd_ec h
  rw [reachedValidation]
  rcases validateSlice_cases s.params s.config m.toNat x slice with
    ⟨hsig, _⟩ | ⟨_, hno, hv⟩ | ⟨_, hvar, hzero, _, hv⟩ | ⟨hvar, hshort, _⟩
  · exact absurd ((eventSignature_iff _ _).mp hsig) h.unsigned
  · rw [if_pos (hec ▸ hno), hv]
  · rw [if_neg (not_or.mpr ⟨hvar, not_not.mpr (hec ▸ hzero)⟩), hv]
    rfl
  · have hlong := h.bitslice_len hvar
    have hlen := frameSlice_length h.slice_eq
    omega

theorem exec_validate_of_reachesWords (h : ReachesWords s m f x slice) :
    exec (.validate m f) s = .next
      (((s.withFrame f).withValidation m.toNat (reachedValidation s m.toNat x slice)).answer
        (verdictWord (reachedValidation s m.toNat x slice).verdict)) :=
  exec_validate_of_ok h.phase h.length h.module h.slice_eq (validateSlice_of_reachesWords h)

theorem wordsValidation_verdict (h : ReachesWords s m f x slice) :
    (wordsValidation s.config m.toNat x slice).verdict =
      { ok := errorCount s.config x slice == 0, ec := errorCount s.config x slice, es := false } := by
  rw [← loopEnd_ec h]
  rfl

theorem wordsValidation_events (h : ReachesWords s m f x slice) :
    (wordsValidation s.config m.toNat x slice).events =
      wordEvents s.config m.toNat x slice ++ spadEvents m.toNat x slice := by
  rw [← loopEnd_events h, ← echoScratchpad_loopEnd h]
  rfl

theorem reachedValidation_verdict (h : ReachesWords s m f x slice) :
    (reachedValidation s m.toNat x slice).verdict =
      { ok := errorCount s.config x slice == 0, ec := errorCount s.config x slice, es := false } := by
  rw [← wordsValidation_verdict h, reachedValidation]
  split <;> rfl

/-- The continuity state and LAST_ERRS are the word loop's, bitslice decoding or not (R187, R188, R191). -/
theorem reachedValidation_module (s : State) (m : Nat) (x : Module) (slice : List Word) :
    (reachedValidation s m x slice).module.lastCounter = (loopEnd s.config m x slice).lastCounter ∧
      (reachedValidation s m x slice).module.spad = (loopEnd s.config m x slice).spad ∧
      (reachedValidation s m x slice).module.lastErrs = (loopEnd s.config m x slice).ec := by
  rw [reachedValidation]
  split <;> exact ⟨rfl, rfl, rfl⟩

theorem getElem?_set_module (h : ReachesWords s m f x slice) (y : Module) :
    (s.modules.set m.toNat y)[m.toNat]? = some y := by
  obtain ⟨hm, _⟩ := List.getElem?_eq_some_iff.mp h.module
  exact List.getElem?_set_self hm

end Words

/-- Settles O35: the count is the word loop's, whatever follows it. -/
theorem validateCountsFailingWords : Obligations.ValidateCountsFailingWords := by
  intro m f s x slice h
  obtain ⟨_, _, herrs⟩ := reachedValidation_module s m.toNat x slice
  have hverdict := reachedValidation_verdict h
  refine ⟨_, (reachedValidation s m.toNat x slice).module, exec_validate_of_reachesWords h, ?_,
    herrs.trans (loopEnd_ec h), staticPart_eq_iff.mp (validateSlice_staticPart (validateSlice_of_reachesWords h))⟩
  rw [hverdict, verdictWord_of_words, State.withValidation, hverdict]
  rfl

/-- Settles O36: the one word of its tag decides alone, and without the decoding the bitslice registers are the old ones. -/
theorem validateUpdatesContinuityState : Obligations.ValidateUpdatesContinuityState := by
  intro m f s x slice h
  obtain ⟨hcounter, hspad, _⟩ := reachedValidation_module s m.toNat x slice
  refine ⟨_, _, exec_validate_of_reachesWords h, getElem?_set_module h _, ?_⟩
  rw [hcounter, hspad]
  refine ⟨fun v hv => checkWords_lastCounter_of_mem (words_one_counter h) hv,
    fun hno => checkWords_lastCounter (zip_fst_ne hno),
    fun j v hv => (checkWords_slot_of_mem (words_one_slot h j) hv).1,
    fun j hno => checkWords_spad (zip_fst_ne hno), fun hno => ?_⟩
  rw [reachedValidation, if_pos hno]
  exact ⟨rfl, rfl, rfl, rfl, rfl, rfl⟩

/-- Settles O37: the events of the words come first in both branches. -/
theorem validateEmitsWordAndSpadEvents : Obligations.ValidateEmitsWordAndSpadEvents := by
  intro m f s x slice h
  have hevents := wordsValidation_events h
  by_cases hno : x.variant = .standard ∨ errorCount s.config x slice ≠ 0
  · refine ⟨_, [], exec_validate_of_reachesWords h, ?_, fun _ => rfl⟩
    rw [reachedValidation, if_pos hno, List.append_nil, List.append_assoc, ← hevents]
    rfl
  · refine ⟨_, (decoding s.params s.config m.toNat x slice).events, exec_validate_of_reachesWords h, ?_,
      fun hyes => absurd hyes hno⟩
    rw [reachedValidation, if_neg hno, List.append_assoc s.diag, ← hevents, List.append_assoc]
    rfl

/-! ### The bitslice decoding -/

/-- The orientation of a bitslice module, by its variant (R233). -/
theorem variantOrient_eq (v : Variant) : variantOrient v = if v = .bitsliceLsb then .lsb else .msb := by
  cases v <;> rfl

theorem bsViolation_eq (config : DWord) (x : Module) (seq : Word) :
    bsViolation config x seq =
      decide (x.bsPrimed = true ∧ config.getLsbD 2 = false ∧ seq ≠ x.bsSeq + 1) := by
  rw [Bool.eq_iff_iff]
  simp [bsViolation, bsAlwaysValid, and_assoc]

theorem auxEvents_eq (m which : Nat) (primed : Bool) (old new : Word) :
    auxEvents m which primed old new =
      if primed = true ∧ new ≠ old then [.bsAuxChange m which old new] else [] := by
  simp [auxEvents]

/-- The events of the decoding (R233), against the history before the validation: the word loop does not touch it. -/
theorem decoding_events (p : Params) (config : DWord) (m : Nat) (x : Module) (slice : List Word) {seq aux0 aux1 : Word}
    (hseq : seq = (decoding p config m x slice).module.bsSeq)
    (haux0 : aux0 = (decoding p config m x slice).module.bsAux0)
    (haux1 : aux1 = (decoding p config m x slice).module.bsAux1) :
    (decoding p config m x slice).events =
      (if (decoding p config m x slice).violation then [.bsDiscontinuity m x.bsSeq seq] else []) ++
      (if x.bsPrimed = true ∧ aux0 ≠ x.bsAux0 then [.bsAuxChange m 0 x.bsAux0 aux0] else []) ++
      (if x.bsPrimed = true ∧ aux1 ≠ x.bsAux1 then [.bsAuxChange m 1 x.bsAux1 aux1] else []) ++
      (if config.getLsbD 2 then [.bsCapture m seq aux0 aux1] else []) := by
  rw [← auxEvents_eq, ← auxEvents_eq, hseq, haux0, haux1]
  rfl

/-- Settles O42: no word failed, so the decoding runs, on the history the word loop left alone. -/
theorem bitsliceFrameIsDecodedAndChecked : Obligations.BitsliceFrameIsDecodedAndChecked := by
  intro m f s x slice h hvar hec o seq aux0 aux1 viol ho hseq haux0 haux1 hviol
  have hreached : reachedValidation s m.toNat x slice = bitsliceValidation s.params s.config m.toNat x slice :=
    if_neg (not_or.mpr ⟨hvar, not_not.mpr hec⟩)
  have hverdict := reachedValidation_verdict h
  rw [← variantOrient_eq] at ho
  rw [← bsViolation_eq] at hviol
  subst ho
  have hviolation : (decoding s.params s.config m.toNat x slice).violation = viol := by
    rw [hviol, hseq]
    rfl
  refine ⟨_, _, exec_validate_of_reachesWords h, getElem?_set_module h _, ?_, ?_, ?_⟩
  · rw [hverdict, verdictWord_of_words, hec]
    rfl
  · simp [hverdict, hec, State.withFrame, State.answer]
  · have hevents := decoding_events s.params s.config m.toNat x slice hseq haux0 haux1
    rw [hviolation] at hevents
    rw [hreached]
    refine ⟨rfl, hseq.symm, haux0.symm, haux1.symm, hviolation ▸ rfl, hviolation ▸ rfl, ?_⟩
    rw [List.append_assoc s.diag, ← wordsValidation_events h]
    simp only [List.append_assoc] at hevents ⊢
    rw [← hevents]
    rfl

end Sys2Proof.Machine
end

section
/-! The gather of the bitslice planes (R230) and COLLECT, which answers it (R231). -/

namespace Sys2Proof.Machine

open Sys2Proof.Statement

/-! ### The gather -/

theorem getLsbD_ofNat_packBits {bits : List Bool} {k : Nat} (hlen : bits.length = 32) (hk : k < bits.length) :
    (BitVec.ofNat 32 (packBits bits)).getLsbD k = bits[k] := by
  rw [BitVec.getLsbD_ofNat, testBit_packBits, List.getD_eq_getElem _ _ hk, decide_eq_true (hlen ▸ hk), Bool.true_and]

theorem laneBits_length (lanes : List Word) (b : Nat) : (laneBits lanes b).length = lanes.length :=
  List.length_map _

theorem laneBits_getElem {lanes : List Word} {b k : Nat} (hk : k < (laneBits lanes b).length) :
    (laneBits lanes b)[k] = (lanes[k]'(laneBits_length lanes b ▸ hk)).getLsbD b :=
  List.getElem_map _

/-- Settles O40: LSB-first, entry k of the lane bits is bit k; MSB-first, entry 31 - k of their reverse is entry k. -/
theorem collectGathersOneBitPerLane : Obligations.CollectGathersOneBitPerLane := by
  intro lanes b hlen k hk
  have hbits : (laneBits lanes b).length = 32 := (laneBits_length lanes b).trans hlen
  have hreverse : (laneBits lanes b).reverse.length = 32 := List.length_reverse.trans hbits
  have hmirror : (laneBits lanes b).length - 1 - (31 - k) = k := by omega
  constructor
  · calc (collect lanes b .lsb).getLsbD k
      _ = (laneBits lanes b)[k]'(by omega) := getLsbD_ofNat_packBits hbits (by omega)
      _ = lanes[k].getLsbD b := laneBits_getElem _
  · calc (collect lanes b .msb).getLsbD (31 - k)
      _ = (laneBits lanes b).reverse[31 - k] := getLsbD_ofNat_packBits hreverse (by omega)
      _ = (laneBits lanes b)[k]'(by omega) := by simp only [List.getElem_reverse, hmirror]
      _ = lanes[k].getLsbD b := laneBits_getElem _

/-! ### COLLECT -/

/-- Settles O41: on 32 lanes COLLECT has its shape, and its legal phases are all but FATAL. -/
theorem collectAnswersTheGather : Obligations.CollectAnswersTheGather := by
  intro bit o lanes s hf hlen
  have hshape : (lanes.length == 32) = true := beq_iff_eq.mpr hlen
  calc exec (.collect bit o lanes) s
    _ = .next (s.answer ((collect lanes bit.toNat o).zeroExtend 64)) :=
      guarded_of_legal hshape (mem_phases_of_ne_fatal hf) hf
    _ = .next (answered ((collect lanes bit.toNat o).zeroExtend 64) s) := rfl

end Sys2Proof.Machine
end

section
/-! STEP and RUN by what their frame step comes to (R262 to R264, R272): the short read, the two faults, and RUN as the
repetition of STEP. -/

namespace Sys2Proof.Machine

open Sys2Proof.Statement

variable {s : State}

/-! ### STEP and RUN against their frame step -/

/-- Behind the checks of R335, in the phases in which R304 allows STEP and RUN. -/
theorem guarded_of_runPhase (hphase : s.phase = .config ∨ s.phase = .running)
    (body : Host.Outcome State Fault Refusal) : guarded true [.config, .running] s body = body := by
  rcases hphase with hc | hr
  · exact guarded_of_legal rfl (by simp [hc]) (by simp [hc])
  · exact guarded_of_legal rfl (by simp [hr]) (by simp [hr])

/-- RUN differs from STEP only where a frame step is over (R272). -/
theorem exec_run_eq_exec_step (h : ∀ u, frameStep s ≠ .finished u) : exec .run s = exec .step s := by
  show execRun s = execStep s
  rw [execRun, execStep]
  cases hs : frameStep s with
  | waits | stopped | raised => rfl
  | finished u => exact absurd hs (h u)

/-- STEP and RUN take the fault entry that their frame step raises. -/
theorem exec_of_raised {i : Instr} {u : State} {code : FatalCode} (hi : i = .step ∨ i = .run)
    (hphase : s.phase = .config ∨ s.phase = .running) (h : frameStep s = .raised code u) :
    exec i s = .next (u.raise code) := by
  have hstep : exec .step s = .next (u.raise code) := by
    show execStep s = _
    rw [execStep, guarded_of_runPhase hphase, h]
  rcases hi with rfl | rfl
  · exact hstep
  · exact (exec_run_eq_exec_step (by simp [h])).trans hstep

/-- Where STEP answers a next state, its frame step waits, raises a fault or is over (R262). -/
theorem exec_step_next_cases {t : State} (hphase : s.phase = .config ∨ s.phase = .running)
    (h : exec .step s = .next t) :
    (frameStep s = .waits ∧ t = s) ∨
    (∃ code u, frameStep s = .raised code u ∧ t = u.raise code) ∨
    (∃ u, frameStep s = .finished u ∧ t = u.answer (statusWord u)) := by
  replace h : execStep s = .next t := h
  rw [execStep, guarded_of_runPhase hphase] at h
  cases hs : frameStep s <;> rw [hs] at h <;> cases h
  case waits => exact .inl ⟨rfl, rfl⟩
  case raised code u => exact .inr (.inl ⟨code, u, rfl, rfl⟩)
  case finished u => exact .inr (.inr ⟨u, rfl, rfl⟩)

/-! ### The frame step without a whole frame -/

/-- STEP may read only in a phase in which R304 allows it. -/
theorem runPhase_of_canStep (h : canStep s) : s.phase = .config ∨ s.phase = .running :=
  h.elim .inr fun ⟨hc, _⟩ => .inl hc

/-- Without a module the frame step raises, and no read is made (R262). -/
theorem frameStep_of_no_modules (hphase : s.phase = .config) (hm : s.modules = []) :
    frameStep s = .raised .cfgNoModules s := by
  rw [frameStep, if_pos ⟨hphase, List.length_eq_zero_iff.mpr hm⟩]

theorem frameStep_of_error {st : InputStream} (hstep : canStep s)
    (hread : streamRead (frameBytes s) s.input = .error st) :
    frameStep s = .raised .inputUnreadable (s.withRead st) := by
  rcases frameStep_cases s with ⟨hc, hlen, _⟩ | ⟨_, ⟨hw, _⟩ | ⟨st', he, hs⟩ | ⟨b, st', hb, _⟩⟩
  · rcases hstep with hr | ⟨_, hne⟩
    · cases hc.symm.trans hr
    · exact absurd (List.length_eq_zero_iff.mp hlen) hne
  · cases hw.symm.trans hread
  · cases he.symm.trans hread
    exact hs
  · cases hb.symm.trans hread

theorem frameBody_of_short {b : List Byte} (hlen : b.length < frameBytes s) :
    frameBody b s = .finished (s.endRun .endOfStream) := by
  rw [frameBody, if_pos hlen]

/-! ### The short read and the faults -/

/-- Settles O43: the frame step ends the run behind the read, so RUN is answered as STEP is. -/
theorem shortReadEndsTheRun : Obligations.ShortReadEndsTheRun := by
  intro i s b st hi hstep hread hlen
  have hfinished : frameStep s = .finished ((s.withRead st).endRun .endOfStream) :=
    (frameStep_of_bytes hstep hread).trans (frameBody_of_short (s := s.withRead st) hlen)
  refine ⟨((s.withRead st).endRun .endOfStream).answer (statusWord ((s.withRead st).endRun .endOfStream)), ?_, rfl⟩
  rcases hi with rfl | rfl
  · exact exec_step_of_finished hstep hfinished
  · exact exec_run_of_finished hstep hfinished

/-- Settles O46: the fault entry overwrites the phase RUNNING that the read had set. -/
theorem readErrorIsFatal : Obligations.ReadErrorIsFatal := by
  intro i s st hi hstep hread
  calc exec i s
    _ = .next ((s.withRead st).raise .inputUnreadable) :=
      exec_of_raised hi (runPhase_of_canStep hstep) (frameStep_of_error hstep hread)
    _ = .next (faulted .inputUnreadable { s with input := st }) := rfl

/-- Settles O47: the frame step raises before it reads. -/
theorem noModulesIsFatal : Obligations.NoModulesIsFatal := by
  intro i s hi hphase hm
  calc exec i s
    _ = .next (s.raise .cfgNoModules) := exec_of_raised hi (.inl hphase) (frameStep_of_no_modules hphase hm)
    _ = .next (faulted .cfgNoModules s) := rfl

/-! ### RUN is STEP repeated -/

/-- A STEP that leaves RUNNING differs from the step of RUN only at the command port, which the frame step itself leaves
alone (R272; log entry 6). -/
theorem resultStatus_eq_of_portKept {u : State} (h : PortKept s u) :
    u.resultStatus = { u.answer (statusWord u) with responses := s.responses, queue := s.queue } := by
  obtain ⟨hresponses, hqueue⟩ := h
  rw [← hresponses, ← hqueue]
  rfl

/-- Settles O48, by what the frame step comes to: only where it is over and PHASE stays RUNNING do STEP and RUN differ. -/
theorem runIsRepeatedStep : Obligations.RunIsRepeatedStep := by
  intro s t hphase h
  rcases exec_step_next_cases hphase h with ⟨hs, rfl⟩ | ⟨code, u, hs, rfl⟩ | ⟨u, hs, rfl⟩
  · have hrun := (exec_run_eq_exec_step (by simp [hs])).trans h
    exact ⟨fun _ => hrun, fun _ => hrun⟩
  · have hfatal : (u.raise code).phase ≠ .running := by simp
    exact ⟨fun hp => absurd hp hfatal, fun _ => (exec_run_eq_exec_step (by simp [hs])).trans h⟩
  · have hstep : canStep s := canStep_of_frameStep (by simpa using hphase) (by simp [hs])
    have hrun := exec_run_of_finished hstep hs
    refine ⟨fun hp => ?_, fun hp => ?_⟩
    · rw [hrun, if_pos (by simpa using hp), resultStatus_eq_of_portKept (frameStep_finished_portKept hs)]
    · rw [hrun, if_neg (by simpa using hp)]

end Sys2Proof.Machine
end

section
/-! The control commands (44_control.md): RESET, SET_CONFIG and SET_CEILING by their whole next state, and READ_REG by the
map of register numbers (R111 to R113): which register each number reads, and which numbers read none. -/

namespace Sys2Proof.Machine

open Sys2Proof.Statement

/-! ### RESET, SET_CONFIG and SET_CEILING -/

/-- Settles O10: RESET has no check to pass, and what it writes is `State.reset` field by field. -/
theorem resetRestoresEveryRegister : Obligations.ResetRestoresEveryRegister := fun _ => rfl

/-- The checks of R335 for a command that R304 allows in CONFIG alone. -/
theorem guarded_of_config {ok : Bool} {s : State} (hok : ok = true) (hphase : s.phase = .config)
    (body : Host.Outcome State Fault Refusal) : guarded ok [.config] s body = body :=
  guarded_of_legal hok (by simp [hphase]) (by simp [hphase])

/-- Settles O12: every FLAGS has its shape. -/
theorem setConfigWritesFlags : Obligations.SetConfigWritesFlags := fun _ _ hphase =>
  guarded_of_config rfl hphase _

/-- Settles O13: two words are the shape SET_CEILING demands. -/
theorem setCeilingWritesCeiling : Obligations.SetCeilingWritesCeiling := fun _ _ _ hphase =>
  guarded_of_config rfl hphase _

/-! ### READ_REG answers what `readRegister` reads -/

section ReadReg

variable {s : State} {reg m : Byte} {x : Module} {n : Nat}

theorem exec_readReg_of_some {v : DWord} (h : readRegister s reg m = some v) :
    exec (.readReg reg m) s = .next (readOut v s) := by
  show execReadReg reg m s = _
  rw [execReadReg, h]
  rfl

theorem exec_readReg_of_none (h : readRegister s reg m = none) :
    exec (.readReg reg m) s = .next (if s.phase = .fatal then refused s else faulted .cmdIllegal s) := by
  show execReadReg reg m s = _
  rw [execReadReg, h, illegal_eq_refused_or_faulted]

/-! ### The three ranges of register numbers -/

theorem readRegister_global (h : reg.toNat < 0x20) :
    readRegister s reg m = if m = 0 then globalRegister s reg.toNat else none := if_pos h

theorem readRegister_module (hlow : 0x20 ≤ reg.toNat) (hhigh : reg.toNat < 0x80) :
    readRegister s reg m = s.modules[m.toNat]?.bind (moduleRegister · reg.toNat) := by
  rw [readRegister, if_neg hlow.not_gt, if_pos hhigh]
  cases s.modules[m.toNat]? <;> rfl

theorem readRegister_build (h : 0x80 ≤ reg.toNat) :
    readRegister s reg m = if m = 0 then buildRegister s (reg.toNat - 0x80) else none := by
  rw [readRegister, if_neg (by omega), if_neg (by omega)]

/-! ### The four ranges of a module's registers (R112) -/

theorem moduleRegister_fixed (h : n < 0x30) : moduleRegister x n = moduleFixedRegister x n := if_pos h

theorem moduleRegister_spad (j : Fin 7) : moduleRegister x (0x30 + j.val) = some (x.spad[j].zeroExtend 64) := by
  have hj := j.isLt
  rw [moduleRegister, if_neg (by omega), if_pos (by omega), Nat.add_sub_cancel_left, Vector.getElem?_eq_getElem hj]
  rfl

theorem moduleRegister_gap (hlow : 0x37 ≤ n) (hhigh : n < 0x40) : moduleRegister x n = none := by
  rw [moduleRegister, if_neg (by omega), if_neg (by omega), if_pos hhigh]

theorem moduleRegister_table (hlow : 0x40 ≤ n) (hhigh : n < 0x69) :
    moduleRegister x n = x.table[n - 0x40]?.map (fun t => (tagWord t).zeroExtend 64) := by
  rw [moduleRegister, if_neg (by omega), if_neg (by omega), if_neg (by omega), if_pos hhigh]

theorem moduleRegister_past_table (h : 0x69 ≤ n) : moduleRegister x n = none := by
  rw [moduleRegister, if_neg (by omega), if_neg (by omega), if_neg (by omega), if_neg (by omega)]

/-! ### The numbers that are not assigned -/

theorem globalRegister_eq_none (h : 0x0F ≤ n) : globalRegister s n = none := by
  obtain ⟨k, rfl⟩ := Nat.exists_eq_add_of_le' h
  rfl

theorem moduleFixedRegister_eq_none (h : 0x2B ≤ n) : moduleFixedRegister x n = none := by
  obtain ⟨k, rfl⟩ := Nat.exists_eq_add_of_le' h
  rfl

/-- The numbers of R112 that name no register, whichever module is read. -/
theorem moduleRegister_unassigned
    (h : (0x2B ≤ n ∧ n ≤ 0x2F) ∨ (0x37 ≤ n ∧ n ≤ 0x3F) ∨ 0x69 ≤ n) : moduleRegister x n = none := by
  rcases h with ⟨hlow, hhigh⟩ | ⟨hlow, hhigh⟩ | hlow
  · rw [moduleRegister_fixed (by omega), moduleFixedRegister_eq_none hlow]
  · exact moduleRegister_gap hlow (by omega)
  · exact moduleRegister_past_table hlow

/-- An index of LEN or more, or one past the last the numbers can name, reads nothing. -/
theorem moduleRegister_of_length_le (hlow : 0x40 ≤ n) (h : x.table.length ≤ n - 0x40) : moduleRegister x n = none := by
  rcases Nat.lt_or_ge n 0x69 with hhigh | hhigh
  · rw [moduleRegister_table hlow hhigh, List.getElem?_eq_none h]
    rfl
  · exact moduleRegister_past_table hhigh

theorem buildRegister_of_lt (h : n < 41) (hlen : n < s.buildLen.toNat) :
    buildRegister s n = some (s.buildTag[n].zeroExtend 64) := by
  rw [buildRegister, if_pos hlen, Vector.getElem?_eq_getElem h]
  rfl

/-- The build buffer has 41 entries, of which BUILD_LEN are readable (R113). -/
theorem buildRegister_eq_none (h : 41 ≤ n ∨ s.buildLen.toNat ≤ n) : buildRegister s n = none := by
  rw [buildRegister]
  split
  · rw [Vector.getElem?_eq_none (by omega)]
    rfl
  · rfl

/-! ### What READ_REG refuses -/

theorem readRegister_global_eq_none (hreg : reg.toNat < 0x20) (h : m ≠ 0 ∨ 0x0F ≤ reg.toNat) :
    readRegister s reg m = none := by
  rw [readRegister_global hreg]
  rcases h with hm | hgap
  · exact if_neg hm
  · rw [globalRegister_eq_none hgap, ite_self]

theorem readRegister_module_eq_none (hlow : 0x20 ≤ reg.toNat) (hhigh : reg.toNat < 0x80)
    (h : ∀ x, s.modules[m.toNat]? = some x → moduleRegister x reg.toNat = none) : readRegister s reg m = none := by
  rw [readRegister_module hlow hhigh, Option.bind_eq_none_iff]
  exact h

theorem readRegister_build_eq_none (hreg : 0x80 ≤ reg.toNat)
    (h : m ≠ 0 ∨ 0xA9 ≤ reg.toNat ∨ s.buildLen.toNat ≤ reg.toNat - 0x80) : readRegister s reg m = none := by
  rw [readRegister_build hreg]
  rcases h with hm | hindex
  · exact if_neg hm
  · rw [buildRegister_eq_none (by omega), ite_self]

/-! ### What READ_REG answers -/

/-- A register number written out as a base and an index. -/
theorem toNat_regNumber (h : n < 256) : (BitVec.ofNat 8 n).toNat = n := by
  rw [BitVec.toNat_ofNat, Nat.mod_eq_of_lt h]

/-- READ_REG at a number of R112. -/
theorem exec_readReg_module {v : DWord} (hm : s.modules[m.toNat]? = some x) (hlow : 0x20 ≤ n) (hhigh : n < 0x80)
    (hv : moduleRegister x n = some v) : exec (.readReg (BitVec.ofNat 8 n) m) s = .next (readOut v s) := by
  have hn : (BitVec.ofNat 8 n).toNat = n := toNat_regNumber (by omega)
  refine exec_readReg_of_some ?_
  rw [readRegister_module (by omega) (by omega), hm, Option.bind_some, hn, hv]

end ReadReg

/-! ### The statements about READ_REG -/

/-- Settles O14, a row of R111 at a time. -/
theorem readRegAnswersGlobalRegisters : Obligations.ReadRegAnswersGlobalRegisters := by
  intro s reg v hrow
  apply exec_readReg_of_some
  simp only [List.mem_cons, List.not_mem_nil, or_false, Prod.mk.injEq] at hrow
  rcases hrow with ⟨rfl, rfl⟩ | ⟨rfl, rfl⟩ | ⟨rfl, rfl⟩ | ⟨rfl, rfl⟩ | ⟨rfl, rfl⟩ | ⟨rfl, rfl⟩ | ⟨rfl, rfl⟩ |
    ⟨rfl, rfl⟩ | ⟨rfl, rfl⟩ | ⟨rfl, rfl⟩ | ⟨rfl, rfl⟩ | ⟨rfl, rfl⟩ | ⟨rfl, rfl⟩ | ⟨rfl, rfl⟩ | ⟨rfl, rfl⟩ <;> rfl

/-- Settles O15: the fixed registers a row of R112 at a time, SPAD and TABLE by their index. -/
theorem readRegAnswersModuleRegisters : Obligations.ReadRegAnswersModuleRegisters := by
  intro s m x hm
  refine ⟨fun reg v hrow => ?_, fun j => ?_, fun i tag hi htag => ?_⟩
  · simp only [List.mem_cons, List.not_mem_nil, or_false, Prod.mk.injEq] at hrow
    rcases hrow with ⟨rfl, rfl⟩ | ⟨rfl, rfl⟩ | ⟨rfl, rfl⟩ | ⟨rfl, rfl⟩ | ⟨rfl, rfl⟩ | ⟨rfl, rfl⟩ | ⟨rfl, rfl⟩ |
      ⟨rfl, rfl⟩ | ⟨rfl, rfl⟩ | ⟨rfl, rfl⟩ | ⟨rfl, rfl⟩
    case inr.inr.inr.inl =>
      -- VARIANT, whose values the statement writes out case by case
      refine exec_readReg_module hm (by decide) (by decide) (congrArg some ?_)
      cases x.variant <;> rfl
    all_goals exact exec_readReg_module hm (by decide) (by decide) rfl
  · exact exec_readReg_module hm (by omega) (by omega) (moduleRegister_spad j)
  · refine exec_readReg_module hm (by omega) (by omega) ?_
    rw [moduleRegister_table (by omega) (by omega), Nat.add_sub_cancel_left, htag]
    rfl

/-- Settles O16: both bounds hold, the 41 entries' and BUILD_LEN's. -/
theorem readRegAnswersBuildBuffer : Obligations.ReadRegAnswersBuildBuffer := by
  intro s i hi hlen
  have hreg : (BitVec.ofNat 8 (0x80 + i)).toNat = 0x80 + i := toNat_regNumber (by omega)
  apply exec_readReg_of_some
  rw [readRegister_build (by omega), if_pos rfl, hreg, Nat.add_sub_cancel_left, buildRegister_of_lt hi hlen]

/-- Settles O17, range by range. -/
theorem unreadableRegisterIsIllegal : Obligations.UnreadableRegisterIsIllegal := by
  intro s reg m h
  apply exec_readReg_of_none
  rcases h with ⟨hreg, h⟩ | ⟨hlow, hhigh, h⟩ | ⟨hreg, h⟩
  · exact readRegister_global_eq_none hreg h
  · refine readRegister_module_eq_none hlow hhigh fun x hx => ?_
    rcases h with hlen | h2B | h37 | h69 | ⟨y, hy, h40, hlen⟩
    · cases (List.getElem?_eq_none hlen).symm.trans hx
    · exact moduleRegister_unassigned (.inl h2B)
    · exact moduleRegister_unassigned (.inr (.inl h37))
    · exact moduleRegister_unassigned (.inr (.inr h69))
    · cases hy.symm.trans hx
      exact moduleRegister_of_length_le h40 hlen
  · exact readRegister_build_eq_none hreg h

end Sys2Proof.Machine
end

section
/-! The checks of R335 as one statement about every command that has them: which operand shape and which phases they
demand. From it what a wrong shape (R333), a phase that R304 marks "-" (R334) and FATAL (R343) answer; and behind them
the phases an instruction can move between (R345), and the idle step (R350). -/

namespace Sys2Proof.Machine

open Sys2Proof.Statement

/-! ### Every command but RESET and READ_REG stands behind the checks of R335 -/

/-- The phases in which R304 allows a command, in the table's order. -/
def legalPhases (i : Instr) : List Phase := [Phase.config, .running, .done, .fatal].filter (legalIn i)

theorem mem_legalPhases {i : Instr} {p : Phase} : p ∈ legalPhases i ↔ legalIn i p = true := by
  cases p <;> simp [legalPhases]

/-- The model checks a command's shape and phase as R102, R180 and R304 tabulate them (R335). -/
theorem exec_eq_guarded {i : Instr} (hletter : isLetter i = false) (hreset : i ≠ .reset)
    (hread : ∀ reg m, i ≠ .readReg reg m) (s : State) :
    ∃ body, exec i s = guarded (shapeFits s i) (legalPhases i) s body := by
  cases i with
  | reset => exact absurd rfl hreset
  | readReg reg m => exact absurd rfl (hread reg m)
  | bankA | bankB | bankC | bankD | bankS | bankP | bankL | bankM => cases hletter
  | setConfig | setCeiling | addModule | build | validate | collect | step | run => exact ⟨_, rfl⟩

/-! ### What the checks answer -/

/-- The phase is the last thing checked (R335). -/
theorem guarded_of_illegal_phase {ok : Bool} {legal : List Phase} {s : State}
    {body : Host.Outcome State Fault Refusal} (hf : s.phase ≠ .fatal) (hok : ok = true) (hl : s.phase ∉ legal) :
    guarded ok legal s body = .next (faulted .cmdPhase s) := by
  rw [guarded, if_neg hf, if_neg (by simp [hok]), if_neg hl]
  rfl

/-- FATAL is the first thing checked (R335). -/
theorem guarded_of_fatal {ok : Bool} {legal : List Phase} {s : State} {body : Host.Outcome State Fault Refusal}
    (hf : s.phase = .fatal) : guarded ok legal s body = .next (refused s) := if_pos hf

/-- Settles O20: RESET and READ_REG are legal everywhere, so the command stands behind the checks. -/
theorem illegalPhaseRaisesPhaseFault : Obligations.IllegalPhaseRaisesPhaseFault := by
  intro i s hletter hf hshape hlegal
  have hreset : i ≠ .reset := by rintro rfl; cases hlegal
  have hread : ∀ reg m, i ≠ .readReg reg m := by rintro reg m rfl; cases hlegal
  have hnot : s.phase ∉ legalPhases i := by simp [mem_legalPhases, hlegal]
  obtain ⟨body, hexec⟩ := exec_eq_guarded hletter hreset hread s
  rw [hexec, guarded_of_illegal_phase hf hshape hnot]

/-- A letter has no operand (R107). -/
theorem shapeFits_of_isLetter {i : Instr} (h : isLetter i = true) (s : State) : shapeFits s i = true := by
  cases i with
  | bankA | bankB | bankC | bankD | bankS | bankP | bankL | bankM => rfl
  | reset | setConfig | setCeiling | addModule | build | validate | collect | step | run | readReg => cases h

/-- Settles O21: a letter, RESET and READ_REG have no operand shape to miss, and the checks look at the shape before the
phase. -/
theorem wrongShapeRaisesIllegalFirst : Obligations.WrongShapeRaisesIllegalFirst := by
  intro i s hf hshape
  have hletter : isLetter i = false :=
    Bool.eq_false_of_not_eq_true fun hl => Bool.false_ne_true (hshape.symm.trans (shapeFits_of_isLetter hl s))
  have hreset : i ≠ .reset := by rintro rfl; cases hshape
  have hread : ∀ reg m, i ≠ .readReg reg m := by rintro reg m rfl; cases hshape
  obtain ⟨body, hexec⟩ := exec_eq_guarded hletter hreset hread s
  rw [hexec, guarded_of_wrong_shape hshape, illegal_eq_refused_or_faulted, if_neg hf]

/-! ### FATAL -/

theorem undecodable_of_fatal {s : State} (hf : s.phase = .fatal) (e : DecodeError) : undecodable e s = refused s := by
  rcases undecodable_cases e s with ⟨_, hs⟩ | ⟨hne, _⟩ | ⟨hne, _⟩
  · exact hs
  · exact absurd hf hne
  · exact absurd hf hne

/-- In FATAL a command is Refused, but for RESET and a READ_REG that reads a register (R343). -/
theorem exec_of_fatal {i : Instr} {s : State} (hletter : isLetter i = false) (hf : s.phase = .fatal)
    (hreset : i ≠ .reset) (hnone : ∀ reg m, i = .readReg reg m → readRegister s reg m = none) :
    exec i s = .next (refused s) := by
  by_cases hread : ∃ reg m, i = .readReg reg m
  · obtain ⟨reg, m, rfl⟩ := hread
    rw [exec_readReg_of_none (hnone reg m rfl), if_pos hf]
  · obtain ⟨body, hexec⟩ := exec_eq_guarded hletter hreset (fun reg m hi => hread ⟨reg, m, hi⟩) s
    rw [hexec, guarded_of_fatal hf]

theorem canStep_ne_fatal {s : State} (h : canStep s) : s.phase ≠ .fatal := by
  rcases runPhase_of_canStep h with hp | hp <;> simp [hp]

/-- In FATAL an instruction other than RESET gives a response at most (R342, R343). -/
theorem Effect.of_fatal {i : Instr} {s t : State} (h : Effect i s t) (hf : s.phase = .fatal) (hreset : i ≠ .reset) :
    t = s ∨ ∃ r, t = s.respond r := by
  cases h with
  | reset => exact absurd rfl hreset
  | waits => exact .inl rfl
  | refuse => exact .inr ⟨.refused, rfl⟩
  | readReg => exact .inr ⟨_, rfl⟩
  | raise hp | build hp | collect hp | letter _ hp | letterFault _ hp => exact absurd hf hp
  | setConfig hp | setCeiling hp | addModule hp | validate hp => cases hp.symm.trans hf
  | readError _ hstep | frameDone _ hstep | runGoesOn hstep => exact absurd hf (canStep_ne_fatal hstep)

/-- Settles O22: the checks refuse, the decoder's errors are refused, and what is left gives a response at most. -/
theorem fatalRefusesAllButResetAndRead : Obligations.FatalRefusesAllButResetAndRead := by
  refine ⟨fun i s => exec_of_fatal, fun s cw p q e ht hq hf hd => ?_, fun i s t hf h => ?_⟩
  · have herror : decodeCommand cw p = .error e := hd
    rw [step_of_command ht hq, herror, runDecoded, undecodable_of_fatal hf]
  · refine or_iff_not_imp_right.mpr fun hreset => ?_
    rcases (effect_of_exec h).of_fatal hf hreset with rfl | ⟨r, rfl⟩
    · exact ⟨hf, rfl, rfl⟩
    · exact ⟨hf, rfl, rfl⟩

/-! ### The transitions of R345 -/

/-- A frame's step leaves the run as it was on, begins it, or ends it (R345). -/
theorem FrameEnds.phase_moves {s u : State} (hends : FrameEnds s u) (hstep : canStep s) :
    u.phase = s.phase ∨ (s.phase = .config ∧ u.phase = .running) ∨
      ((s.phase = .config ∨ s.phase = .running) ∧ u.phase = .done) := by
  have hphase := runPhase_of_canStep hstep
  rcases hends.phase with hrun | hdone
  · rcases hphase with hc | hr
    · exact .inr (.inl ⟨hc, hrun⟩)
    · exact .inl (hrun.trans hr.symm)
  · exact .inr (.inr ⟨hphase, hdone⟩)

/-- Settles O23, by what each instruction can do. -/
theorem phaseChangesOnlyAsTheRulesAllow : Obligations.PhaseChangesOnlyAsTheRulesAllow := by
  intro i s t h
  cases effect_of_exec h with
  | reset => exact .inr (.inl ⟨rfl, rfl⟩)
  | refuse | setConfig | setCeiling | addModule | build | collect | waits | readReg | letter => exact .inl rfl
  | @validate m frame _ _ _ _ _ _ hvalid => exact .inl (validateModule_onlyValidated hvalid).phase
  | raise hf | letterFault _ hf => exact .inr (.inr (.inl ⟨hf, rfl⟩))
  | readError _ hstep => exact .inr (.inr (.inl ⟨canStep_ne_fatal hstep, rfl⟩))
  | frameDone hi hstep hends => exact (hends.phase_moves hstep).imp_right fun hm => .inr (.inr ⟨hi, hm⟩)
  | runGoesOn hstep hends => exact (hends.phase_moves hstep).imp_right fun hm => .inr (.inr ⟨.inr rfl, hm⟩)

/-! ### The idle step -/

/-- Settles O5: there is nothing to fetch. -/
theorem idleKeepsState : Obligations.IdleKeepsState := by
  intro s ht hq
  rw [step, fetch_idle ht hq]

end Sys2Proof.Machine
end

section
/-! The read that never returns (R71, R378): where the frame step waits, a step of the machine is the identity, and so is
any number of them. -/

namespace Sys2Proof.Machine

open Sys2Proof.Statement

/-! ### A frame step that waits -/

/-- Where STEP may read, the check for a module has passed (R262). -/
theorem module_check_of_canStep {s : State} (hstep : canStep s) : ¬(s.phase = .config ∧ s.modules.length = 0) := by
  rintro ⟨hc, hlen⟩
  rcases hstep with hr | ⟨_, hne⟩
  · cases hc.symm.trans hr
  · exact hne (List.length_eq_zero_iff.mp hlen)

/-- A STEP that may read waits where its read does (R378). -/
theorem frameStep_of_waits {s : State} (hstep : canStep s) (hread : streamRead (frameBytes s) s.input = .waits) :
    frameStep s = .waits := by
  rw [frameStep, if_neg (module_check_of_canStep hstep), hread]

/-- STEP and RUN leave the state as it is while their frame step waits (R378; log entry 7). -/
theorem exec_of_waits {i : Instr} {s : State} (hi : i = .step ∨ i = .run) (hstep : canStep s)
    (h : frameStep s = .waits) : exec i s = .next s := by
  have hexec : exec .step s = .next s := by
    show execStep s = _
    rw [execStep, guarded_of_canStep hstep, h]
  rcases hi with rfl | rfl
  · exact hexec
  · exact (exec_run_eq_exec_step (by simp [h])).trans hexec

/-! ### The stalled stream -/

/-- The command words of STEP and RUN (R102), without a payload. -/
theorem decodeCommand_step_or_run {cw : Word} (hcw : cw = 0x70000000 ∨ cw = 0x80000000) :
    ∃ i, (i = .step ∨ i = .run) ∧ decodeCommand cw .none = .ok i := by
  rcases hcw with rfl | rfl
  · exact ⟨.step, .inl rfl, by decide⟩
  · exact ⟨.run, .inr rfl, by decide⟩

/-- A read on a stream that stalls short of its bytes does not return (R71, R378). -/
theorem streamRead_of_stalls {n : Nat} {st : InputStream} (hr : st.reads ∉ st.failing) (hstall : st.tail = .stalls)
    (hn : 0 < n) (hlen : st.data.length < st.pos + n) : streamRead n st = .waits := by
  obtain ⟨_, hreturns⟩ := streamReadGivesTheNextBytes n st
  obtain ⟨_, hwaits, _⟩ := hreturns hr
  exact hwaits hstall hn hlen

/-- A machine that steps to where it is stays there. -/
theorem run_of_step_self {M : Host.Core} {s : M.State} (h : M.step s = .next s) (n : Nat) : M.run n s = .next s := by
  induction n with
  | zero => rfl
  | succ n ih => exact (run_succ_of_next n h).trans ih

/-- Settles O49: the stalled read makes one step of the machine the identity, and so every number of them. -/
theorem stalledReadNeverCompletes : Obligations.StalledReadNeverCompletes := by
  intro s cw q n ht hq hcw hstep hstall hr hframe hlen
  obtain ⟨i, hi, hdecode⟩ := decodeCommand_step_or_run hcw
  have hwaits : frameStep s = .waits := frameStep_of_waits hstep (streamRead_of_stalls hr hstall hframe hlen)
  have hself : step s = .next s := by
    rw [step_of_command ht hq, hdecode]
    exact exec_of_waits hi hstep hwaits
  exact run_of_step_self (M := Sys2Proof.core) hself n

end Sys2Proof.Machine
end
